-- ==== Sys2Proof/Word.lean ====
section
/-! DEFINITION. Sys2Proof/Word.lean: the words of the station. Only what the spec treats as bits is a bit vector: the
millisecond clock, which wraps (R1), and the bytes of frames, of the configuration image and of the duty record. -/

namespace Sys2Proof

/-- A character of the bay link or a byte of the serial memory. -/
abbrev Byte := BitVec 8

/-- A value of the station clock: milliseconds since reset, wrapping after its greatest value (R1). -/
abbrev Clock := BitVec 32

/-- A timer of a block: stopped, or running with its target on the station clock (R1). -/
abbrev Timer := Option Clock

/-- A station's bay, 1 to 12 ("Bays" in 00_scope.md), held as its bay number less 1. The plant station's bay 0 is no `Bay`. -/
abbrev Bay := Fin 12

/-- The bay number, 1 to 12. -/
def bayNumber (b : Bay) : Nat := b.val + 1

/-- A span of milliseconds as a difference of clock values. -/
def ms (n : Nat) : Clock := BitVec.ofNat 32 n

end Sys2Proof
end

