-- ==== Sys2Proof/Config.lean ====
section
/-! DEFINITION. Sys2Proof/Config.lean: what is fixed while the station runs. `Settings` holds the configuration fields of
11.8, in the order of the image; `Config` holds the free values, which the spec leaves open and nothing here fixes. -/

namespace Sys2Proof

/-- A wash parameter set: cycles, cycle period and spray point, the last two in 100 ms units (R101). -/
structure WashSet where
  cycles     : Nat
  period     : Nat
  sprayPoint : Nat
deriving DecidableEq, Repr

/-- The settings of one level loop: its zero in mm and its span in mm (R5). -/
structure LoopSettings where
  zero : Int
  span : Nat
deriving DecidableEq, Repr

/-- The configuration fields of 11.8, each under the spec's name, in the spec's units. -/
structure Settings where
  linkRate          : Nat
  statusPeriod      : Nat
  silentLimit       : Nat
  quietAfter        : Nat
  isolatedAfter     : Nat
  demandTimeout     : Nat
  defaultDemand     : Nat
  outer             : LoopSettings
  inner             : LoopSettings
  filterShift       : Nat
  headStopped       : Nat
  headRunning       : Nat
  headBlocked       : Nat
  settleTime        : Nat
  washThreshold     : Nat
  urgentThreshold   : Nat
  surgeThreshold    : Nat
  washHeaders       : Nat
  routineSet        : WashSet
  stormSet          : WashSet
  maxWashInterval   : Nat
  minWashGap        : Nat
  claimMargin       : Nat
  shaftPrescale     : Nat
  stallSlow         : Nat
  stallFast         : Nat
  headerDelay       : Nat
  washRetry         : Nat
  tideInterval      : Nat
  levelLL           : Int
  levelL            : Int
  levelH            : Int
  levelHH           : Int
  tideHysteresis    : Nat
  tidePersistence   : Nat
  rateWindow        : Nat
  rateThreshold     : Nat
  suspectTolerance  : Nat
  suspectPersistence : Nat
  capLow            : Nat
  capLowLow         : Nat
  foulingWeight     : Nat
  marginRef         : Nat
  pumpStopLevel     : Int
  pumpRestartLevel  : Int
  runAllowance      : Nat
  dutyInterval      : Nat
  startGuard        : Nat
  startPulse        : Nat
  stopPulse         : Nat
  startTimeout      : Nat
  stopTimeout       : Nat
  minRun            : Nat
  minStop           : Nat
  startLimit        : Nat
  trendInterval     : Nat
  swarmStep         : Nat
  swarmCount        : Nat
  swarmUrgentSum    : Nat
  alarmEnable       : BitVec 24
deriving DecidableEq, Repr

/-- FREE VALUE (DESIGN CHOICE, safe; log 6). Where the spec allows two hand-overs of one event in either order and the orders
can end differently, the n-th such choice of a run takes the first-named hand-over first when this is true. -/
opaque Config.takesFirst : Nat → Bool

/-- FREE VALUE (DESIGN CHOICE, safe; log 7). Whether the access limit of 2000 character times (R161, R162), no whole number of
milliseconds at any link_rate, is rounded up to a millisecond of the station clock (down when false). -/
opaque Config.accessRoundsUp : Nat → Bool

/-- FREE VALUE (DESIGN CHOICE, safe; log 15). The value, below its bound, of an agreement or disagreement run that reaches its
persistence without changing SUSPECT (R36, R41). -/
opaque Config.idleRun : Nat

end Sys2Proof
end

