-- ==== Sys2Proof/Syntax.lean ====
section
/-! DEFINITION. Sys2Proof/Syntax.lean: the commands of the station, one constructor per row of spec/opcode_table.json, in the
table's order, each with the operands the event brings from outside. -/

namespace Sys2Proof

/-- A complete frame as the receiver collects it after SYNC (R155, 11.8): KIND, BAY, LEN, the payload characters and the two
CRC characters, read high byte first. -/
structure Frame where
  kind    : Byte
  bay     : Byte
  len     : Byte
  payload : List Byte
  crc     : BitVec 16
deriving DecidableEq, Repr

/-- What came back in place of the character sent, at a read-back mismatch (R161): another value, a character with a framing
error, or no character by the end of the stop bit. -/
inductive ReadBack where
  | value (c : Byte)
  | framingError
  | nothing
deriving DecidableEq, Repr

/-- The commands. A timer expiry is the event of that timer alone; the line commands carry no level, since each names the
change itself. -/
inductive Instr where
  /-- R164: power-on, or RESET_N goes low. -/
  | reset
  /-- R165: the reset ends; the straps BAY3 to BAY0 read as one value. -/
  | resetEnd (straps : BitVec 4)
  /-- R167: the READ of the configuration image ends with these 100 bytes. -/
  | configImageReadDone (image : List Byte)
  /-- R168: the READ of the duty record ends with these 5 bytes. -/
  | dutyRecordReadDone (record : List Byte)
  /-- R2: the sample timer expires; the present codes of the two loops. -/
  | sampleTimerExpiry (outer inner : BitVec 12)
  | settleTimerExpiry
  | ageingTimerExpiry
  | tideTimerExpiry
  | trendTimerExpiry
  | rangeTimerExpiry
  | gapTimerExpiry
  | intervalTimerExpiry
  | cycleTimerExpiry
  /-- R105: a rising edge of SHAFT. -/
  | shaftEdge
  | stallTimerExpiry
  | headerOpens
  | headerCloses
  | headerTimerExpiry
  | retryTimerExpiry
  | dutyTimerExpiry
  | guardTimerExpiry
  /-- R132: the feedback timer expires in STARTING. -/
  | startTimeout
  /-- R134: the feedback timer expires in STOPPING. -/
  | stopTimeout
  | pulseTimerExpiry
  | minRunExpiry
  | minStopExpiry
  /-- R140: the age timer of the start ring expires. -/
  | startRingAgeExpiry
  | minuteTimerExpiry
  | runCloses
  | runOpens
  | tripCloses
  | tripOpens
  | localCloses
  | localOpens
  | ackRisingEdge
  | statusTimerExpiry
  /-- R161: in DEFER the idle time has reached the access gap. -/
  | attemptBegin
  /-- R162: the last character of the own frame is read back right. -/
  | transmitCompletion
  /-- R162: `matched` characters were read back right, and for the next one `got` came. -/
  | collision (matched : Nat) (got : ReadBack)
  /-- R162: in BACKOFF the line has been idle for one character time. -/
  | backoffEnd
  | accessTimerExpiry
  /-- R155: the idle time has reached 2 character times. -/
  | receiverArmed
  /-- R155: a frame begun is abandoned: idle over 1.5 character times, a framing error, or a LEN above 23. -/
  | frameAbandoned
  /-- R156: a complete frame that fails the validation. -/
  | invalidFrame (f : Frame)
  | statusFrame (f : Frame)
  | claimFrame (f : Frame)
  | releaseFrame (f : Frame)
  | orderFrame (f : Frame)
  | writeEnableDone
  | pageWriteDone
  | pollTimerExpiry
  /-- R170: READ STATUS ends with this status byte. -/
  | readStatusDone (status : Byte)
  | ackFallingEdge
  /-- R155: while ARMED, a character other than an error-free SYNC. -/
  | nonSyncCharacter
deriving DecidableEq, Repr

end Sys2Proof
end

