-- ==== Sys2Proof/Machine/Bytes.lean ====
section
/-! DEFINITION. Sys2Proof/Machine/Bytes.lean: bytes, byte order and the CRC (11.8, R171), the framing of the bay link (11.8,
R155) and the validity of a frame (R156). -/

namespace Sys2Proof.Machine

/-- One data bit into the CRC register: shifted left, and combined with 0x1021 when the bit shifted out differs from the data
bit (R171). -/
def crcBit (reg : BitVec 16) (bit : Bool) : BitVec 16 :=
  if reg.msb = bit then reg <<< 1 else (reg <<< 1) ^^^ 0x1021#16

/-- The eight bits of a byte, most significant first (R171). -/
def bitsMsbFirst (b : Byte) : List Bool :=
  [b.getLsbD 7, b.getLsbD 6, b.getLsbD 5, b.getLsbD 4, b.getLsbD 3, b.getLsbD 2, b.getLsbD 1, b.getLsbD 0]

def crcByte (reg : BitVec 16) (b : Byte) : BitVec 16 :=
  (bitsMsbFirst b).foldl crcBit reg

/-- The CRC over a list of bytes; the register starts at 0xFFFF and there is no final inversion (R171). -/
def crc (bytes : List Byte) : BitVec 16 :=
  bytes.foldl crcByte 0xFFFF#16

/-- A byte of a natural number. -/
def byte (n : Nat) : Byte := BitVec.ofNat 8 n

/-- Two bytes, high byte first (11.8). -/
def bytes16 (n : Nat) : List Byte := [byte (n / 256), byte n]

/-- Three bytes, high byte first (11.8). -/
def bytes24 (n : Nat) : List Byte := [byte (n / 65536), byte (n / 256), byte n]

/-- A signed 16-bit field, two's complement (11.8). -/
def bytesInt16 (i : Int) : List Byte := bytes16 (BitVec.ofInt 16 i).toNat

/-- The byte at a place of a layout. -/
def byteAt (bs : List Byte) (n : Nat) : Nat := (bs.getD n 0#8).toNat

/-- An unsigned field of two bytes, high byte first (11.8). -/
def wordAt (bs : List Byte) (n : Nat) : Nat := byteAt bs n * 256 + byteAt bs (n + 1)

/-- A field of three bytes, high byte first (11.8). -/
def tripleAt (bs : List Byte) (n : Nat) : Nat := wordAt bs n * 256 + byteAt bs (n + 2)

/-- A signed field of two bytes, two's complement (11.8). -/
def intAt (bs : List Byte) (n : Nat) : Int := (BitVec.ofNat 16 (wordAt bs n)).toInt

/-- SYNC, the first character of a frame (11.8). -/
def syncByte : Byte := 0x5A#8

def kindStatus : Byte := 0x11#8
def kindClaim : Byte := 0x22#8
def kindRelease : Byte := 0x33#8
def kindOrder : Byte := 0x44#8

/-- The length each KIND carries (R156); none for a KIND of no frame. -/
def kindLength (k : Byte) : Option Nat :=
  if k = kindStatus then some 23
  else if k = kindClaim then some 4
  else if k = kindRelease then some 1
  else if k = kindOrder then some 7
  else none

/-- The bytes a frame's CRC covers: KIND through the last payload character (R171). -/
def frameCovered (f : Frame) : List Byte := f.kind :: f.bay :: f.len :: f.payload

/-- The BAY a KIND may bear: 0 for ORDER, 1 to 12 for the others (R156). -/
def frameBayAllowed (f : Frame) : Bool :=
  if f.kind = kindOrder then f.bay = 0#8 else 1 ≤ f.bay.toNat && f.bay.toNat ≤ 12

/-- A frame the receiver can complete: LEN is at most 23 and tells the payload characters (R155). -/
def frameComplete (f : Frame) : Bool :=
  f.len.toNat ≤ 23 && f.payload.length = f.len.toNat

/-- R156: KIND, LEN, CRC and BAY of a complete frame are right. -/
def frameValid (f : Frame) : Bool :=
  frameComplete f && kindLength f.kind = some f.len.toNat && f.crc = crc (frameCovered f) && frameBayAllowed f

/-- The characters of a frame, SYNC first (11.8). -/
def frameBytes (kind bay : Byte) (payload : List Byte) : List Byte :=
  let body := kind :: bay :: byte payload.length :: payload
  syncByte :: body ++ bytes16 (crc body).toNat

/-- The bay a BAY character names, for 1 to 12. -/
def bayOfByte (b : Byte) : Option Bay :=
  if h : 1 ≤ b.toNat ∧ b.toNat ≤ 12 then some ⟨b.toNat - 1, by omega⟩ else none

end Sys2Proof.Machine
end

