-- ==== Sys2Proof/WellFormed.lean ====
section
/-! DEFINITION. Sys2Proof/WellFormed.lean: the operands an event of each row can bring. A READ of the image brings 100 bytes, of
the duty record 5 (R165); a frame row brings a frame that is valid and of its KIND (R156); INVALID_FRAME brings a complete frame
that is not valid. -/

namespace Sys2Proof

/-- The operands of a command are ones its row's event can bring. -/
def Instr.wellFormed : Instr → Bool
  | .configImageReadDone image => image.length = 100
  | .dutyRecordReadDone record => record.length = 5
  | .invalidFrame f => Machine.frameComplete f && !Machine.frameValid f
  | .statusFrame f => Machine.frameValid f && f.kind = Machine.kindStatus
  | .claimFrame f => Machine.frameValid f && f.kind = Machine.kindClaim
  | .releaseFrame f => Machine.frameValid f && f.kind = Machine.kindRelease
  | .orderFrame f => Machine.frameValid f && f.kind = Machine.kindOrder
  | .collision matched _ => matched < 29
  | .reset | .resetEnd _ | .sampleTimerExpiry _ _ | .settleTimerExpiry | .ageingTimerExpiry | .tideTimerExpiry
  | .trendTimerExpiry | .rangeTimerExpiry | .gapTimerExpiry | .intervalTimerExpiry | .cycleTimerExpiry | .shaftEdge
  | .stallTimerExpiry | .headerOpens | .headerCloses | .headerTimerExpiry | .retryTimerExpiry | .dutyTimerExpiry
  | .guardTimerExpiry | .startTimeout | .stopTimeout | .pulseTimerExpiry | .minRunExpiry | .minStopExpiry
  | .startRingAgeExpiry | .minuteTimerExpiry | .runCloses | .runOpens | .tripCloses | .tripOpens | .localCloses
  | .localOpens | .ackRisingEdge | .statusTimerExpiry | .attemptBegin | .transmitCompletion | .backoffEnd
  | .accessTimerExpiry | .receiverArmed | .frameAbandoned | .writeEnableDone | .pageWriteDone | .pollTimerExpiry
  | .readStatusDone _ | .ackFallingEdge | .nonSyncCharacter => true

end Sys2Proof
end

