-- ==== Sys2Proof/Machine/State.lean ====
section
/-! DEFINITION. Sys2Proof/Machine/State.lean: every piece of state the spec gives the station, block by block, as plain data,
and its value at reset. The table of each structure's fields is the one of the rule its docstring names. -/

namespace Sys2Proof.Machine

/-! ### The named values -/

/-- The state of a level loop (1.0, R7). -/
inductive Sensor where
  | good | under | over
deriving DecidableEq, Repr

/-- The stage of the isolation ladder (R31). -/
inductive Stage where
  | linked | quiet | isolated
deriving DecidableEq, Repr

/-- The pump states (R125). -/
inductive PumpState where
  | stopped | startPending | starting | running | stopping | tripped | failed | locked
deriving DecidableEq, Repr

/-- The refusal causes (R125, R141). -/
inductive Cause where
  | none | startLimit | minStop | stagger | suction | betterStarter | notEligible | link
deriving DecidableEq, Repr

/-- The wash states (R91). -/
inductive WashState where
  | idle | claiming | waiting | washing | yielded | releasing
deriving DecidableEq, Repr

inductive ClaimClass where
  | routine | urgent
deriving DecidableEq, Repr

/-- The state of an alarm entry (R145). -/
inductive AlarmState where
  | normal | unack | acked | returned
deriving DecidableEq, Repr

/-- The drive of the band screen (R103). -/
inductive Drive where
  | off | slow | fast
deriving DecidableEq, Repr

/-- The phase of the station (R164). -/
inductive Phase where
  | loading | listening | operating | halted
deriving DecidableEq, Repr

/-- The transmitter states (R154). -/
inductive TxState where
  | idle | defer | send | backoff | mute
deriving DecidableEq, Repr

/-- The receiver states (R154). -/
inductive Receiver where
  | waitIdle | armed | collect
deriving DecidableEq, Repr

/-- The states of a duty record write (R164, R170). -/
inductive WriteState where
  | idle | enable | program | poll
deriving DecidableEq, Repr

/-- The state of a peer entry (2.1, R17). -/
inductive Presence where
  | empty | present | silent
deriving DecidableEq, Repr

/-- A command pulse (R128). -/
inductive Pulse where
  | start | stop
deriving DecidableEq, Repr

/-- The record mark (R164, R168). -/
inductive RecordMark where
  | good | lost
deriving DecidableEq, Repr

/-- The alarms of the catalogue 9.1, each with the condition it follows. -/
inductive Alarm where
  | lowLow | low | high | highHigh | surge | levelUnknown | outerSensor | innerSensor | suctionLow | pumpTrip | pumpFail
  | screenBlocked | screenStall | washWaterFail | linkIsolated | bayConflict | dutyRecordLost
deriving DecidableEq, Repr

/-- The own standing in the claim list (R73). -/
inductive Standing where
  | none | inRange | beyondRange
deriving DecidableEq, Repr

/-- The SPI transaction in progress (R166): what it sends, and how many bytes it takes. -/
inductive Spi where
  /-- READ of `count` bytes from `address` upward. -/
  | read (address count : Nat)
  | writeEnable
  /-- PAGE WRITE of `data` to `address`. -/
  | pageWrite (address : Nat) (data : List Byte)
  | readStatus
deriving DecidableEq, Repr

/-! ### The blocks -/

/-- The levels of the input lines that have one (11.7): true is closed. They belong to the outside and no reset moves them. -/
structure Lines where
  run      : Bool
  trip     : Bool
  localSel : Bool
  header   : Bool
  ack      : Bool
deriving DecidableEq, Repr

/-- A loop record (chapter 1): A is `acc`, Lf is `level`. -/
structure LoopRecord where
  state     : Sensor
  startMark : Bool
  goodRun   : Nat
  faultRun  : Nat
  acc       : Int
  level     : Int
deriving DecidableEq, Repr

/-- The level front end (chapter 1). -/
structure FrontEnd where
  sampleTimer : Timer
  outer       : LoopRecord
  inner       : LoopRecord
deriving DecidableEq, Repr

/-- The content fields of a STATUS frame (2.1, 11.8). -/
structure Report where
  restart        : Bool
  swarm          : Bool
  demandHeld     : Bool
  outerSuspect   : Bool
  eligible       : Bool
  startable      : Bool
  runFeedback    : Bool
  foulingStale   : Bool
  stage          : Stage
  outerSensor    : Sensor
  innerSensor    : Sensor
  pumpState      : PumpState
  cause          : Cause
  wash           : WashState
  cls            : ClaimClass
  tag            : Nat
  fouling        : Nat
  outerLevel     : Int
  innerLevel     : Int
  runHours       : Nat
  starts         : Nat
  score          : Nat
  screenPeriod   : Nat
  swarmIntensity : Nat
  alarms         : Vector AlarmState 17
deriving DecidableEq, Repr

/-- A peer entry (2.1). The fields of the own entry's report are not read: they are the owning blocks' values (R18). -/
structure PeerEntry where
  presence : Presence
  age      : Nat
  report   : Report
deriving DecidableEq, Repr

/-- The order record (2.4). -/
structure OrderRecord where
  heard       : Bool
  lastApplied : Option (BitVec 8)
  demand      : Nat
  rotation    : Nat
  age         : Nat
  demandHeld  : Bool
deriving DecidableEq, Repr

/-- The isolation ladder (2.5). -/
structure Ladder where
  count : Nat
  stage : Stage
deriving DecidableEq, Repr

/-- A rise run and a fall run (R36). -/
structure Runs where
  rise : Nat
  fall : Nat
deriving DecidableEq, Repr

/-- The tide monitor (R36), but for its conditions, which stand in `Conds`. -/
structure Tide where
  timer       : Timer
  level       : Int
  valid       : Bool
  judged      : Bool
  disRun      : Nat
  agrRun      : Nat
  suspect     : Bool
  lowLowRun   : Runs
  lowRun      : Runs
  highRun     : Runs
  highHighRun : Runs
  surgeRun    : Runs
  ring        : Vector Int 16
  pointer     : Fin 16
  fill        : Nat
deriving DecidableEq, Repr

/-- A swarm lane (R64). -/
structure Lane where
  index       : Nat
  stale       : Bool
  present     : Bool
  invalidated : Bool
deriving DecidableEq, Repr

/-- The fouling monitor and swarm watch (R55); F is `index`. -/
structure Fouling where
  index       : Nat
  stale       : Bool
  runningMark : Bool
  settleTimer : Timer
  lanes       : Vector Lane 12
  trendTimer  : Timer
  swarm       : Bool
  intensity   : Nat
deriving DecidableEq, Repr

/-- A claim entry (R71). -/
structure Claim where
  bay      : Bay
  tag      : Nat
  cls      : ClaimClass
  duration : Nat
  inRange  : Nat
deriving DecidableEq, Repr

/-- The claim list (chapter 5), position 0 first. -/
structure Claims where
  entries    : List Claim
  rangeTimer : Timer
deriving DecidableEq, Repr

/-- The screen controller (R91), but for its two conditions. -/
structure Screen where
  wash          : WashState
  tag           : Nat
  cls           : ClaimClass
  completed     : Nat
  working       : WashSet
  cycleCount    : Nat
  cycleTimer    : Timer
  drive         : Drive
  prescale      : Nat
  lastCapture   : Option Clock
  period        : Nat
  stallTimer    : Timer
  headerTimer   : Timer
  retryTimer    : Timer
  gapTimer      : Timer
  intervalTimer : Timer
  intervalDue   : Bool
  spray         : Bool
deriving DecidableEq, Repr

/-- The duty ranker (R111). -/
structure Duty where
  timer      : Timer
  score      : Nat
  candidates : List Bay
  ranking    : List Bay
  ownRank    : Option Nat
  nTarget    : Nat
  running    : Nat
  stopCount  : Nat
deriving DecidableEq, Repr

/-- The pump controller (R125), but for its three conditions and for ELIGIBLE and STARTABLE, which always equal the present
value of their definitions (R112) and are computed. -/
structure Pump where
  state         : PumpState
  cause         : Cause
  pulse         : Option Pulse
  pulseTimer    : Timer
  guardTimer    : Timer
  feedbackTimer : Timer
  minRunTimer   : Timer
  minStopTimer  : Timer
  ring          : Vector (Option Clock) 6
  pointer       : Fin 6
  ageTimer      : Timer
  runMinutes    : Nat
  minuteAcc     : Nat
  minuteTimer   : Timer
deriving DecidableEq, Repr

/-- The seventeen conditions the alarms follow (9.1), true or false. -/
structure Conds where
  lowLow         : Bool
  low            : Bool
  high           : Bool
  highHigh       : Bool
  surge          : Bool
  levelUnknown   : Bool
  outerSensor    : Bool
  innerSensor    : Bool
  suctionLow     : Bool
  pumpTrip       : Bool
  pumpFail       : Bool
  screenBlocked  : Bool
  screenStall    : Bool
  washWaterFail  : Bool
  linkIsolated   : Bool
  bayConflict    : Bool
  dutyRecordLost : Bool
deriving DecidableEq, Repr

/-- A frame a station sends (R157, R158). A STATUS holds no contents while it waits. -/
inductive TxFrame where
  | status
  | claim (tag : Nat) (cls : ClaimClass) (duration : Nat)
  | release (tag : Nat)
deriving DecidableEq, Repr

/-- The frame in hand with its attempt count and, from the beginning of an attempt, its characters (R154, R161). -/
structure InHand where
  frame   : TxFrame
  attempt : Nat
  bytes   : List Byte
deriving DecidableEq, Repr

/-- The link interface (R154), but for BAY CONFLICT. -/
structure Link where
  tx          : TxState
  inHand      : Option InHand
  queue       : List TxFrame
  accessTimer : Timer
  receiver    : Receiver
  statusTimer : Timer
deriving DecidableEq, Repr

/-- The settings loader (R164), with the poll timer of R170 and the SPI transaction of R166. -/
structure Loader where
  phase        : Phase
  bay          : Option Bay
  cfg          : Option Settings
  mark         : RecordMark
  write        : WriteState
  writePending : Bool
  pollCount    : Nat
  pollTimer    : Timer
  window       : Nat
  spi          : Option Spi
deriving DecidableEq, Repr

/-- The station, with the queue of the commands that wait and the two fields of the model's own: `inReset`, true while a reset
holds (log 1), and `choices`, the index of the next free order choice (log 6). -/
structure State where
  pending     : List Instr
  choices     : Nat
  inReset     : Bool
  clock       : Clock
  lines       : Lines
  front       : FrontEnd
  peers       : Vector PeerEntry 12
  ageingTimer : Timer
  order       : OrderRecord
  ladder      : Ladder
  tide        : Tide
  fouling     : Fouling
  claims      : Claims
  screen      : Screen
  duty        : Duty
  pump        : Pump
  conds       : Conds
  alarms      : Vector AlarmState 17
  link        : Link
  loader      : Loader
deriving DecidableEq, Repr

/-! ### The values at reset -/

/-- R6. -/
def LoopRecord.reset : LoopRecord := ⟨.under, true, 0, 0, 0, 0⟩

/-- R17: every field 0 or its first listed value. -/
def Report.reset : Report :=
  { restart := false, swarm := false, demandHeld := false, outerSuspect := false, eligible := false, startable := false,
    runFeedback := false, foulingStale := false, stage := .linked, outerSensor := .good, innerSensor := .good,
    pumpState := .stopped, cause := .none, wash := .idle, cls := .routine, tag := 0, fouling := 0, outerLevel := 0,
    innerLevel := 0, runHours := 0, starts := 0, score := 0, screenPeriod := 0, swarmIntensity := 0,
    alarms := Vector.replicate 17 .normal }

/-- R36. -/
def Tide.reset : Tide :=
  { timer := none, level := 0, valid := false, judged := false, disRun := 0, agrRun := 0, suspect := false,
    lowLowRun := ⟨0, 0⟩, lowRun := ⟨0, 0⟩, highRun := ⟨0, 0⟩, highHighRun := ⟨0, 0⟩, surgeRun := ⟨0, 0⟩,
    ring := Vector.replicate 16 0, pointer := 0, fill := 0 }

/-- R55, R64. -/
def Fouling.reset : Fouling :=
  { index := 0, stale := true, runningMark := false, settleTimer := none, lanes := Vector.replicate 12 ⟨0, true, false, true⟩,
    trendTimer := none, swarm := false, intensity := 0 }

/-- R91. The working copy before the configuration is loaded is 0, 0, 0 (DESIGN CHOICE, unsafe; log 13). -/
def Screen.reset : Screen :=
  { wash := .idle, tag := 0, cls := .routine, completed := 0, working := ⟨0, 0, 0⟩, cycleCount := 0, cycleTimer := none,
    drive := .off, prescale := 0, lastCapture := none, period := 0, stallTimer := none, headerTimer := none,
    retryTimer := none, gapTimer := none, intervalTimer := none, intervalDue := false, spray := false }

/-- R111. -/
def Duty.reset : Duty :=
  { timer := none, score := 1023, candidates := [], ranking := [], ownRank := none, nTarget := 0, running := 0, stopCount := 0 }

/-- R125. -/
def Pump.reset : Pump :=
  { state := .stopped, cause := .none, pulse := none, pulseTimer := none, guardTimer := none, feedbackTimer := none,
    minRunTimer := none, minStopTimer := none, ring := Vector.replicate 6 none, pointer := 0, ageTimer := none,
    runMinutes := 0, minuteAcc := 0, minuteTimer := none }

/-- Every condition is false at reset (R15, R36, R42, R55, R91, R125, R150, R154). -/
def Conds.reset : Conds :=
  ⟨false, false, false, false, false, false, false, false, false, false, false, false, false, false, false, false, false⟩

/-- R154. -/
def Link.reset : Link :=
  { tx := .mute, inHand := none, queue := [], accessTimer := none, receiver := .waitIdle, statusTimer := none }

/-- R164. The poll timer is stopped (DESIGN CHOICE, unsafe; log 12). -/
def Loader.reset : Loader :=
  { phase := .loading, bay := none, cfg := none, mark := .lost, write := .idle, writePending := false, pollCount := 0,
    pollTimer := none, window := 0, spi := none }

/-- The input lines before anything has moved them: all open (DESIGN CHOICE, unsafe; log 4). -/
def Lines.reset : Lines := ⟨false, false, false, false, false⟩

/-- The station while a reset holds and nothing has come before it (R164): the clock stands at 0, every block holds the reset
values of its chapter, no command waits. -/
def State.reset : State :=
  { pending := [], choices := 0, inReset := true, clock := 0, lines := Lines.reset,
    front := ⟨none, LoopRecord.reset, LoopRecord.reset⟩,
    peers := Vector.replicate 12 ⟨.empty, 0, Report.reset⟩, ageingTimer := none,
    order := ⟨false, none, 0, 0, 0, true⟩, ladder := ⟨0, .linked⟩, tide := Tide.reset, fouling := Fouling.reset,
    claims := ⟨[], none⟩, screen := Screen.reset, duty := Duty.reset, pump := Pump.reset, conds := Conds.reset,
    alarms := Vector.replicate 17 .normal, link := Link.reset, loader := Loader.reset }

/-! ### Stops -/

/-- The faults of a step. There are none: the spec describes no event at which the part stops (a refused image or a bad strap is
the phase HALTED, R165, R167; a bad frame is discarded, R156), so this type has no constructor. -/
inductive Fault
deriving DecidableEq, Repr

/-- The refusals of a step. -/
inductive Refusal where
  /-- Raised by an arm of `exec` whose command has no meaning yet; safe. No arm raises it now. -/
  | notModelled (mnemonic : String)
deriving DecidableEq, Repr

end Sys2Proof.Machine
end

