-- ==== Sys2Proof/Machine/Operands.lean ====
section
/-! DEFINITION. Sys2Proof/Machine/Operands.lean: the byte layouts of 11.8 as they enter and leave the station: the STATUS payload
(read with the content check of R22, written by R157), the CLAIM, RELEASE and ORDER payloads, the configuration image with its
checks (R167), and the duty record (R168). -/

namespace Sys2Proof.Machine

/-! ### Codes of the named values (11.8) -/

def Sensor.code : Sensor → Nat
  | .good => 0 | .under => 1 | .over => 2

def Sensor.ofCode : Nat → Option Sensor
  | 0 => some .good | 1 => some .under | 2 => some .over | _ => none

def Stage.code : Stage → Nat
  | .linked => 0 | .quiet => 1 | .isolated => 2

def Stage.ofCode : Nat → Option Stage
  | 0 => some .linked | 1 => some .quiet | 2 => some .isolated | _ => none

def PumpState.code : PumpState → Nat
  | .stopped => 0 | .startPending => 1 | .starting => 2 | .running => 3
  | .stopping => 4 | .tripped => 5 | .failed => 6 | .locked => 7

def PumpState.ofCode : Nat → Option PumpState
  | 0 => some .stopped | 1 => some .startPending | 2 => some .starting | 3 => some .running
  | 4 => some .stopping | 5 => some .tripped | 6 => some .failed | 7 => some .locked | _ => none

def Cause.code : Cause → Nat
  | .none => 0 | .startLimit => 1 | .minStop => 2 | .stagger => 3
  | .suction => 4 | .betterStarter => 5 | .notEligible => 6 | .link => 7

def Cause.ofCode : Nat → Option Cause
  | 0 => some .none | 1 => some .startLimit | 2 => some .minStop | 3 => some .stagger
  | 4 => some .suction | 5 => some .betterStarter | 6 => some .notEligible | 7 => some .link | _ => Option.none

def WashState.code : WashState → Nat
  | .idle => 0 | .claiming => 1 | .waiting => 2 | .washing => 3 | .yielded => 4 | .releasing => 5

def WashState.ofCode : Nat → Option WashState
  | 0 => some .idle | 1 => some .claiming | 2 => some .waiting | 3 => some .washing
  | 4 => some .yielded | 5 => some .releasing | _ => none

def ClaimClass.code : ClaimClass → Nat
  | .routine => 0 | .urgent => 1

def ClaimClass.ofCode : Nat → Option ClaimClass
  | 0 => some .routine | 1 => some .urgent | _ => none

def AlarmState.code : AlarmState → Nat
  | .normal => 0 | .unack => 1 | .acked => 2 | .returned => 3

/-- The alarm state of a two-bit code; every code has one. -/
def AlarmState.ofCode : Nat → AlarmState
  | 0 => .normal | 1 => .unack | 2 => .acked | _ => .returned

/-! ### STATUS -/

/-- The weight of a flag at a bit place. -/
def flagBit (b : Bool) (place : Nat) : Nat := if b then 2 ^ place else 0

/-- The flag at a bit place. -/
def flagAt (n place : Nat) : Bool := n / 2 ^ place % 2 = 1

/-- Byte 0 of the STATUS payload. -/
def flagsByte (r : Report) : Byte :=
  byte (flagBit r.restart 0 + flagBit r.swarm 1 + flagBit r.demandHeld 2 + flagBit r.outerSuspect 3 + flagBit r.eligible 4
    + flagBit r.startable 5 + flagBit r.runFeedback 6 + flagBit r.foulingStale 7)

/-- The code of an alarm entry by its place 0 to 16; 0 beyond, for the unused bits. -/
def alarmCodeAt (alarms : Vector AlarmState 17) (n : Nat) : Nat :=
  if h : n < 17 then alarms[n].code else 0

/-- One of the five alarm bytes: four entries of two bits, the first in the low bits. -/
def alarmByte (alarms : Vector AlarmState 17) (k : Nat) : Byte :=
  byte (alarmCodeAt alarms (4 * k) + 4 * alarmCodeAt alarms (4 * k + 1) + 16 * alarmCodeAt alarms (4 * k + 2)
    + 64 * alarmCodeAt alarms (4 * k + 3))

/-- The STATUS payload of a report (11.8); unused bits are 0 (R157). -/
def encodeReport (r : Report) : List Byte :=
  [flagsByte r,
   byte (r.stage.code + 4 * r.outerSensor.code + 16 * r.innerSensor.code),
   byte (r.pumpState.code + 16 * r.cause.code),
   byte (r.wash.code + 8 * r.cls.code + 16 * r.tag),
   byte r.fouling]
  ++ bytesInt16 r.outerLevel ++ bytesInt16 r.innerLevel ++ bytes16 r.runHours ++ [byte r.starts] ++ bytes16 r.score
  ++ bytes16 r.screenPeriod ++ bytes16 r.swarmIntensity
  ++ [alarmByte r.alarms 0, alarmByte r.alarms 1, alarmByte r.alarms 2, alarmByte r.alarms 3, alarmByte r.alarms 4]

/-- The numeric checks of R22. -/
def reportInRange (fouling starts score intensity : Nat) (outerLevel innerLevel : Int) : Bool :=
  fouling ≤ 100 && (-10000 ≤ outerLevel && outerLevel ≤ 30000) && (-10000 ≤ innerLevel && innerLevel ≤ 30000)
    && starts ≤ 6 && (score ≤ 855 || score = 1023) && intensity ≤ 1200

/-- The report of a STATUS payload, or none when it fails the content check of R22. -/
def decodeReport (p : List Byte) : Option Report :=
  let b0 := byteAt p 0
  let b1 := byteAt p 1
  let b2 := byteAt p 2
  let b3 := byteAt p 3
  match Stage.ofCode (b1 % 4), Sensor.ofCode (b1 / 4 % 4), Sensor.ofCode (b1 / 16 % 4), PumpState.ofCode (b2 % 16),
      Cause.ofCode (b2 / 16 % 16), WashState.ofCode (b3 % 8), ClaimClass.ofCode (b3 / 8 % 2) with
  | some stage, some outerSensor, some innerSensor, some pumpState, some cause, some wash, some cls =>
    if reportInRange (byteAt p 4) (byteAt p 11) (wordAt p 12) (wordAt p 16) (intAt p 5) (intAt p 7) then
      some
        { restart := flagAt b0 0, swarm := flagAt b0 1, demandHeld := flagAt b0 2, outerSuspect := flagAt b0 3,
          eligible := flagAt b0 4, startable := flagAt b0 5, runFeedback := flagAt b0 6, foulingStale := flagAt b0 7,
          stage, outerSensor, innerSensor, pumpState, cause, wash, cls, tag := b3 / 16 % 16, fouling := byteAt p 4,
          outerLevel := intAt p 5, innerLevel := intAt p 7, runHours := wordAt p 9, starts := byteAt p 11,
          score := wordAt p 12, screenPeriod := wordAt p 14, swarmIntensity := wordAt p 16,
          alarms := Vector.ofFn fun i : Fin 17 => AlarmState.ofCode (byteAt p (18 + i.val / 4) / 4 ^ (i.val % 4) % 4) }
    else none
  | _, _, _, _, _, _, _ => none

/-! ### CLAIM, RELEASE and ORDER -/

/-- The payload of a frame the station sends, but for STATUS (11.8). -/
def encodeClaim (tag : Nat) (cls : ClaimClass) (duration : Nat) : List Byte :=
  [byte tag, byte cls.code] ++ bytes16 duration

/-- The tag, class and duration of a CLAIM payload, or none when they fail the check of R74. -/
def decodeClaim (p : List Byte) : Option (Nat × ClaimClass × Nat) :=
  match ClaimClass.ofCode (byteAt p 1) with
  | some cls => if byteAt p 0 ≤ 15 && 1 ≤ wordAt p 2 && wordAt p 2 ≤ 9000 then some (byteAt p 0, cls, wordAt p 2) else none
  | none => none

/-- The fields of an ORDER (11.8). -/
structure OrderFields where
  sequence : BitVec 8
  demand   : Nat
  rotation : Nat
  ackMask  : BitVec 16
  washMask : BitVec 16
deriving DecidableEq, Repr

def decodeOrder (p : List Byte) : OrderFields :=
  { sequence := p.getD 0 0#8, demand := byteAt p 1, rotation := byteAt p 2,
    ackMask := BitVec.ofNat 16 (wordAt p 3), washMask := BitVec.ofNat 16 (wordAt p 5) }

/-- Bay b's flag in a mask stands at bit b - 1 (11.8). -/
def maskFlag (mask : BitVec 16) (b : Bay) : Bool := mask.getLsbD b.val

/-! ### The configuration image -/

def washSetAt (p : List Byte) (n : Nat) : WashSet := ⟨byteAt p n, wordAt p (n + 1), wordAt p (n + 3)⟩

/-- The fields of an image by the table of 11.8, unchecked. -/
def imageFields (p : List Byte) : Settings :=
  { linkRate := byteAt p 0, statusPeriod := byteAt p 1, silentLimit := byteAt p 2, quietAfter := byteAt p 3,
    isolatedAfter := byteAt p 4, demandTimeout := byteAt p 5, defaultDemand := byteAt p 6,
    outer := ⟨intAt p 7, wordAt p 9⟩, inner := ⟨intAt p 11, wordAt p 13⟩, filterShift := byteAt p 15,
    headStopped := wordAt p 16, headRunning := wordAt p 18, headBlocked := wordAt p 20, settleTime := byteAt p 22,
    washThreshold := byteAt p 23, urgentThreshold := byteAt p 24, surgeThreshold := byteAt p 25, washHeaders := byteAt p 26,
    routineSet := washSetAt p 27, stormSet := washSetAt p 32, maxWashInterval := wordAt p 37, minWashGap := byteAt p 39,
    claimMargin := byteAt p 40, shaftPrescale := byteAt p 41, stallSlow := byteAt p 42, stallFast := byteAt p 43,
    headerDelay := byteAt p 44, washRetry := byteAt p 45, tideInterval := byteAt p 46,
    levelLL := intAt p 47, levelL := intAt p 49, levelH := intAt p 51, levelHH := intAt p 53, tideHysteresis := wordAt p 55,
    tidePersistence := byteAt p 57, rateWindow := byteAt p 58, rateThreshold := wordAt p 59, suspectTolerance := wordAt p 61,
    suspectPersistence := byteAt p 63, capLow := byteAt p 64, capLowLow := byteAt p 65, foulingWeight := byteAt p 66,
    marginRef := wordAt p 67, pumpStopLevel := intAt p 69, pumpRestartLevel := intAt p 71, runAllowance := byteAt p 73,
    dutyInterval := byteAt p 74, startGuard := byteAt p 75, startPulse := byteAt p 76, stopPulse := byteAt p 77,
    startTimeout := byteAt p 78, stopTimeout := byteAt p 79, minRun := byteAt p 80, minStop := byteAt p 81,
    startLimit := byteAt p 82, trendInterval := byteAt p 83, swarmStep := byteAt p 84, swarmCount := byteAt p 85,
    swarmUrgentSum := wordAt p 86, alarmEnable := BitVec.ofNat 24 (tripleAt p 88) }

def between (lo n hi : Nat) : Bool := lo ≤ n && n ≤ hi

def betweenInt (lo n hi : Int) : Bool := lo ≤ n && n ≤ hi

/-- R5: zero -10000 to +10000, span 1000 to 20000. -/
def loopInRange (l : LoopSettings) : Bool := betweenInt (-10000) l.zero 10000 && between 1000 l.span 20000

/-- R101: cycles 1 to 15, cycle_period 10 to 600, spray_point 0 to 599. -/
def washSetInRange (w : WashSet) : Bool :=
  between 1 w.cycles 15 && between 10 w.period 600 && w.sprayPoint ≤ 599

/-- The ranges of the fields of the front end, the peer table and the tide monitor (R5, R11, R19, R20, R29 to R31, R35, R40,
R41, R43, R47, R49, R50, R153; link_rate DEDUCED, log 11). -/
def levelsInRange (c : Settings) : Bool :=
  c.linkRate ≤ 2 && between 2 c.statusPeriod 16 && between 3 c.silentLimit 15 && between 2 c.quietAfter 15
    && c.isolatedAfter ≤ 60 && between 5 c.demandTimeout 120 && c.defaultDemand ≤ 12 && loopInRange c.outer
    && loopInRange c.inner && c.filterShift ≤ 5 && between 1 c.tideInterval 10 && betweenInt (-10000) c.levelLL 30000
    && betweenInt (-10000) c.levelL 30000 && betweenInt (-10000) c.levelH 30000 && betweenInt (-10000) c.levelHH 30000
    && between 10 c.tideHysteresis 1000 && between 1 c.tidePersistence 15 && between 4 c.rateWindow 15
    && between 10 c.rateThreshold 2000 && between 50 c.suspectTolerance 2000 && between 1 c.suspectPersistence 15
    && c.capLow ≤ 12 && c.capLowLow ≤ 12

/-- The ranges of the fields of the fouling monitor, the claim list and the screen controller (5.0, R57 to R59, R65, R67, R68,
R70, R84, R92, R97, R101, R105, R106, R108, R167; shaft_prescale DEDUCED, log 11). -/
def screenInRange (c : Settings) : Bool :=
  c.headStopped ≤ 500 && c.headRunning ≤ 1000 && between 100 c.headBlocked 3000 && between 5 c.settleTime 120
    && between 1 c.washThreshold 99 && between 2 c.urgentThreshold 100 && between 1 c.surgeThreshold 99
    && between 1 c.washHeaders 4 && washSetInRange c.routineSet && washSetInRange c.stormSet
    && (c.maxWashInterval = 0 || between 10 c.maxWashInterval 1440) && between 1 c.minWashGap 120
    && between 5 c.claimMargin 120 && c.shaftPrescale ≤ 7 && between 5 c.stallSlow 255 && between 5 c.stallFast 255
    && between 1 c.headerDelay 30 && between 1 c.washRetry 60 && between 1 c.trendInterval 60 && between 1 c.swarmStep 50
    && c.swarmCount ≤ 12 && between 1 c.swarmUrgentSum 1200

/-- The ranges of the fields of the duty ranker and the pump controller, and the unused bits of alarm_enable (R113, R116, R127,
R128, R130, R132 to R135, R140, R167). -/
def pumpInRange (c : Settings) : Bool :=
  c.foulingWeight ≤ 7 && c.marginRef ≤ 4000 && betweenInt (-10000) c.pumpStopLevel 30000
    && betweenInt (-10000) c.pumpRestartLevel 30000 && c.runAllowance ≤ 127 && between 2 c.dutyInterval 60
    && between 1 c.startGuard 10 && between 1 c.startPulse 20 && between 1 c.stopPulse 20 && between 2 c.startTimeout 60
    && between 2 c.stopTimeout 60 && between 1 c.minRun 120 && between 1 c.minStop 120 && between 1 c.startLimit 6
    && c.alarmEnable.toNat < 2 ^ 17

/-- R167 test 3. -/
def crossFieldsHold (c : Settings) : Bool :=
  (c.levelLL < c.levelL && c.levelL < c.levelH && c.levelH < c.levelHH)
    && (c.surgeThreshold ≤ c.washThreshold && c.washThreshold < c.urgentThreshold)
    && c.pumpRestartLevel > c.pumpStopLevel && c.capLowLow ≤ c.capLow && c.quietAfter < c.isolatedAfter
    && c.routineSet.sprayPoint < c.routineSet.period && c.stormSet.sprayPoint < c.stormSet.period

/-- R167 tests 2 and 3 over the fields. -/
def settingsAllowed (c : Settings) : Bool :=
  levelsInRange c && screenInRange c && pumpInRange c && crossFieldsHold c

/-- The padding bytes 91 to 97 are zero (R167). -/
def paddingZero (p : List Byte) : Bool := ((p.drop 91).take 7).all (· = 0#8)

/-- The CRC of an image agrees with its bytes 98 and 99 (R167 test 1). -/
def imageCrcAgrees (p : List Byte) : Bool := (crc (p.take 98)).toNat = wordAt p 98

/-- R167: the settings of an accepted image, or none when it is refused. -/
def readImage (p : List Byte) : Option Settings :=
  if p.length = 100 && imageCrcAgrees p && paddingZero p && settingsAllowed (imageFields p) then some (imageFields p) else none

/-! ### The duty record -/

/-- R168: the run-minute count of a record whose CRC agrees. -/
def readRecord (p : List Byte) : Option Nat :=
  if p.length = 5 && (crc (p.take 3)).toNat = wordAt p 3 then some (tripleAt p 0) else none

/-- The duty record of a run-minute count, with its CRC (11.8, R170). -/
def recordBytes (minutes : Nat) : List Byte :=
  bytes24 minutes ++ bytes16 (crc (bytes24 minutes)).toNat

/-! ### SPI -/

/-- The bytes a transaction sends on SPI_MOSI (R166). -/
def Spi.mosi : Spi → List Byte
  | .read address _ => 0x03#8 :: bytes16 address
  | .writeEnable => [0x06#8]
  | .pageWrite address data => 0x02#8 :: bytes16 address ++ data
  | .readStatus => [0x05#8]

end Sys2Proof.Machine
end

