-- ==== Sys2Proof/Machine/Flags.lean ====
section
/-! DEFINITION. Sys2Proof/Machine/Flags.lean: the flags, conditions, selections and outputs that are the present value of a
definition over the state: the conditions by their alarm, counted running, ELIGIBLE and STARTABLE, the sets and thresholds in
force, the choice of the drive, and the output lines. -/

namespace Sys2Proof.Machine

/-! ### Conditions and alarms -/

/-- The place of an alarm in the catalogue, counted from 0 (9.1). -/
def Alarm.index : Alarm → Fin 17
  | .lowLow => 0 | .low => 1 | .high => 2 | .highHigh => 3 | .surge => 4 | .levelUnknown => 5 | .outerSensor => 6
  | .innerSensor => 7 | .suctionLow => 8 | .pumpTrip => 9 | .pumpFail => 10 | .screenBlocked => 11 | .screenStall => 12
  | .washWaterFail => 13 | .linkIsolated => 14 | .bayConflict => 15 | .dutyRecordLost => 16

/-- The condition an alarm follows (9.1). -/
def Conds.get (c : Conds) : Alarm → Bool
  | .lowLow => c.lowLow | .low => c.low | .high => c.high | .highHigh => c.highHigh | .surge => c.surge
  | .levelUnknown => c.levelUnknown | .outerSensor => c.outerSensor | .innerSensor => c.innerSensor
  | .suctionLow => c.suctionLow | .pumpTrip => c.pumpTrip | .pumpFail => c.pumpFail | .screenBlocked => c.screenBlocked
  | .screenStall => c.screenStall | .washWaterFail => c.washWaterFail | .linkIsolated => c.linkIsolated
  | .bayConflict => c.bayConflict | .dutyRecordLost => c.dutyRecordLost

/-- The conditions with one replaced. -/
def Conds.set (c : Conds) (a : Alarm) (v : Bool) : Conds :=
  match a with
  | .lowLow => { c with lowLow := v } | .low => { c with low := v } | .high => { c with high := v }
  | .highHigh => { c with highHigh := v } | .surge => { c with surge := v } | .levelUnknown => { c with levelUnknown := v }
  | .outerSensor => { c with outerSensor := v } | .innerSensor => { c with innerSensor := v }
  | .suctionLow => { c with suctionLow := v } | .pumpTrip => { c with pumpTrip := v } | .pumpFail => { c with pumpFail := v }
  | .screenBlocked => { c with screenBlocked := v } | .screenStall => { c with screenStall := v }
  | .washWaterFail => { c with washWaterFail := v } | .linkIsolated => { c with linkIsolated := v }
  | .bayConflict => { c with bayConflict := v } | .dutyRecordLost => { c with dutyRecordLost := v }

/-- The entry of an alarm. -/
def alarmState (s : State) (a : Alarm) : AlarmState := s.alarms[a.index]

/-- The alarm's flag in alarm_enable (R149, 11.8). -/
def alarmEnabled (c : Settings) (n : Nat) : Bool := c.alarmEnable.getLsbD n

/-- The entry after a rise or a fall of its condition; a dash of the table leaves it as it is (R146). -/
def entryAfterChange (rise : Bool) : AlarmState → AlarmState
  | .normal => if rise then .unack else .normal
  | .unack => if rise then .unack else .returned
  | .acked => if rise then .acked else .normal
  | .returned => if rise then .unack else .returned

/-- The entry after an acknowledge (R147). -/
def entryAfterAck : AlarmState → AlarmState
  | .normal => .normal
  | .unack => .acked
  | .acked => .acked
  | .returned => .normal

/-! ### The pump -/

/-- "Counted running" of 00_scope.md for a pump state and a run feedback. -/
def countsRunning (p : PumpState) (feedback : Bool) : Bool := p = .starting || p = .running || feedback

/-- The own bay is counted running: its pump state and its RUN contact. -/
def countedRunning (s : State) : Bool := countsRunning s.pump.state s.lines.run

/-- The starts in the last hour: the slots of the start ring that are not empty (R140). -/
def startsInLastHour (s : State) : Nat := s.pump.ring.toList.countP Option.isSome

/-- The whole hours of the run-minute count, capped at 65535 (R143). -/
def runHours (s : State) : Nat := min (s.pump.runMinutes / 60) 65535

/-- ELIGIBLE (R112). -/
def eligible (s : State) : Bool :=
  !(s.pump.state = .locked || s.pump.state = .tripped || s.pump.state = .failed) && s.front.inner.state = .good
    && !s.conds.screenBlocked && s.loader.phase = .operating && !s.conds.bayConflict

/-- STARTABLE (R112). -/
def startable (c : Settings) (s : State) : Bool :=
  eligible s && s.pump.state = .stopped && startsInLastHour s < c.startLimit && s.pump.minStopTimer.isNone
    && !s.conds.suctionLow

/-- The first failing part of STARTABLE other than the pump state, as the refusal cause that names it (R131). -/
def failingPart (c : Settings) (s : State) : Option Cause :=
  if !eligible s then some .notEligible
  else if !(startsInLastHour s < c.startLimit) then some .startLimit
  else if s.pump.minStopTimer.isSome then some .minStop
  else if s.conds.suctionLow then some .suction
  else none

/-! ### What is in force -/

/-- The status period P in ms (R19). -/
def statusPeriodMs (c : Settings) : Nat := c.statusPeriod * 250

/-- The demand timeout Td in status periods: the ceiling of demand_timeout × 4 / status_period (R29). -/
def demandTimeoutPeriods (c : Settings) : Nat := (c.demandTimeout * 4 + c.statusPeriod - 1) / c.statusPeriod

/-- The demand in force (R30). -/
def demandInForce (c : Settings) (s : State) : Nat := if s.order.heard then s.order.demand else c.defaultDemand

/-- The rotation in force (R30). -/
def rotationInForce (s : State) : Nat := if s.order.heard then s.order.rotation else 0

/-- The tide cap (R50). -/
def tideCap (c : Settings) (s : State) : Nat :=
  if s.conds.lowLow then c.capLowLow
  else if s.conds.low || !s.tide.valid then c.capLow
  else 12

/-- The wash threshold in force (R52, R92). -/
def washThresholdInForce (c : Settings) (s : State) : Nat :=
  if s.conds.surge then c.surgeThreshold else c.washThreshold

/-- The wash set in force (R52, R101). -/
def washSetInForce (c : Settings) (s : State) : WashSet := if s.conds.surge then c.stormSet else c.routineSet

/-- The drive the table of R103 chooses. -/
def driveChoice (s : State) : Drive :=
  if s.loader.phase = .loading || s.loader.phase = .halted then .off
  else if s.conds.bayConflict then .off
  else if s.conds.screenStall then .off
  else if s.screen.wash = .washing then .fast
  else if s.fouling.swarm || s.conds.highHigh || s.conds.surge then .slow
  else .off

/-- The stage a count of silent status periods gives (R31). -/
def stageOfCount (c : Settings) (n : Nat) : Stage :=
  if n < c.quietAfter then .linked else if n < c.isolatedAfter then .quiet else .isolated

/-- The tie order of a bay under a rotation (R118). -/
def tieOrder (rotation : Nat) (b : Bay) : Nat := (b.val + 12 - rotation % 12) % 12

/-! ### The outputs -/

/-- The output lines of the station. -/
structure Outputs where
  start      : Bool
  stop       : Bool
  screenSlow : Bool
  screenFast : Bool
  spray      : Bool
  alarm      : Bool
  linkDe     : Bool
  spiCsHigh  : Bool
deriving DecidableEq, Repr

/-- Some entry is UNACK or RETURNED, or the phase is HALTED (R151). -/
def alarmOutput (s : State) : Bool :=
  s.loader.phase = .halted || s.alarms.toList.any fun e => e = .unack || e = .returned

/-- The outputs (R102, R104, R128, R151, R153, R166). -/
def outputs (s : State) : Outputs :=
  { start := s.pump.pulse = some .start, stop := s.pump.pulse = some .stop, screenSlow := s.screen.drive = .slow,
    screenFast := s.screen.drive = .fast, spray := s.screen.spray, alarm := alarmOutput s, linkDe := s.link.tx = .send,
    spiCsHigh := s.loader.spi.isNone }

end Sys2Proof.Machine
end

