-- ==== Sys2Proof/Machine/Ops.lean ====
section
/-! DEFINITION. Sys2Proof/Machine/Ops.lean: the operations the blocks share: timers and the clock (R1), the free order of two
hand-overs, offers to the transmit queue (R158, R161), conditions handed to the annunciator (R146), and the requests to write the
duty record (R170). -/

namespace Sys2Proof.Machine

/-! ### The station at work -/

/-- What is fixed from LOADING to the next reset (R164): the own bay and the settings. -/
structure Ctx where
  bay : Bay
  cfg : Settings
deriving DecidableEq, Repr

/-- The own bay and settings of a station in LISTENING or OPERATING, the phases in which its blocks work. -/
def ctx? (s : State) : Option Ctx :=
  match s.loader.phase, s.loader.bay, s.loader.cfg with
  | .listening, some b, some c => if s.inReset then none else some ⟨b, c⟩
  | .operating, some b, some c => if s.inReset then none else some ⟨b, c⟩
  | _, _, _ => none

/-- An event that the blocks take in LISTENING and OPERATING alone (R142, R165, R170); elsewhere it has no effect. -/
def whenLive (s : State) (act : Ctx → State → State) : State :=
  match ctx? s with
  | some x => act x s
  | none => s

/-! ### The clock and the timers -/

/-- R1: the clock has reached a target when their difference modulo 2^32, read as signed, is not negative. -/
def reached (clock target : Clock) : Bool := !(clock - target).msb

/-- The clock at the expiry of a timer: the expiry comes when the clock reaches the target, so a clock short of it stands at the
target then (DEDUCED from R1, safe; log 3). -/
def clockAtExpiry (clock target : Clock) : Clock := if reached clock target then clock else target

/-- The expiry of a timer with the target it held, the timer being read before the event. A stopped timer has no expiry. -/
def onExpiry (t : Timer) (s : State) (act : Clock → State → State) : State :=
  match t with
  | some target => act target { s with clock := clockAtExpiry s.clock target }
  | none => s

/-- A timer started with its target n milliseconds ahead of the clock. -/
def ahead (s : State) (n : Nat) : Timer := some (s.clock + ms n)

/-- A periodic timer after its expiry: its period is added to its target (R1). -/
def rearmed (target : Clock) (period : Nat) : Timer := some (target + ms period)

/-- The clock counts a millisecond; it stands at 0 while a reset holds (R164). -/
def tick (s : State) : State := if s.inReset then s else { s with clock := s.clock + 1#32 }

/-! ### Hand-overs in either order -/

/-- Two hand-overs of one event that the spec lets go in either order: the free value chooses (DESIGN CHOICE, safe; log 6). -/
def eitherOrder (first second : State → State) (s : State) : State :=
  let t := { s with choices := s.choices + 1 }
  if Config.takesFirst s.choices then second (first t) else first (second t)

/-! ### The transmit queue -/

/-- 2000 character times of ten bits in whole milliseconds, rounded as the free value says (R153, R161; log 7). -/
def accessLimitMs (c : Settings) : Nat :=
  let whole := if c.linkRate = 0 then 1041 else if c.linkRate = 1 then 520 else 260
  if Config.accessRoundsUp c.linkRate then whole + 1 else whole

/-- The access timer started 2000 character times ahead (R161, R162). -/
def accessAhead (x : Ctx) (s : State) : Timer := ahead s (accessLimitMs x.cfg)

/-- An IDLE transmitter takes the head of the queue into hand (R161). -/
def takeNext (x : Ctx) (s : State) : State :=
  match s.link.tx, s.link.queue with
  | .idle, f :: rest =>
    { s with link := { s.link with
        tx := .defer, inHand := some ⟨f, 1, []⟩, queue := rest, accessTimer := accessAhead x s } }
  | _, _ => s

/-- A frame offered to the queue (R158): discarded in MUTE; a STATUS replaces a waiting STATUS in place; any other is appended.
An IDLE transmitter takes the head on the offer (R161; log 9). -/
def offer (x : Ctx) (f : TxFrame) (s : State) : State :=
  if s.link.tx = .mute then s
  else if f = .status && s.link.queue.contains .status then s
  else takeNext x { s with link := { s.link with queue := s.link.queue ++ [f] } }

/-- A STATUS offered (R160). -/
def offerStatus (x : Ctx) (s : State) : State := offer x .status s

/-- The waiting entry is the CLAIM of a tag. -/
def isClaimOf (tag : Nat) : TxFrame → Bool
  | .claim t _ _ => t = tag
  | _ => false

/-! ### Conditions -/

/-- A condition change handed to the annunciator (R146, R149, R152): the entry of an enabled alarm moves, and a change of its
state offers a STATUS. -/
def annunciate (x : Ctx) (a : Alarm) (rise : Bool) (s : State) : State :=
  let before := alarmState s a
  let after := entryAfterChange rise before
  if alarmEnabled x.cfg a.index.val && after ≠ before then
    offerStatus x { s with alarms := s.alarms.set a.index after }
  else s

/-- A condition judged by its owner: a change is kept and handed to the annunciator. -/
def setCond (x : Ctx) (a : Alarm) (v : Bool) (s : State) : State :=
  if s.conds.get a = v then s else annunciate x a v { s with conds := s.conds.set a v }

/-! ### The duty record -/

/-- A write begins: WRITE ENABLE, and no request is pending (R170). -/
def beginWrite (s : State) : State :=
  { s with loader := { s.loader with write := .enable, writePending := false, spi := some .writeEnable } }

/-- A duty record write requested (R170). -/
def requestWrite (s : State) : State :=
  if s.loader.write = .idle && !(s.loader.phase = .listening && s.loader.mark = .lost) then beginWrite s
  else { s with loader := { s.loader with writePending := true } }

/-- The end of a write, confirmed or not; a pending request begins a further one at once (R170). -/
def endWrite (s : State) : State :=
  let t := { s with loader := { s.loader with write := .idle, pollTimer := none, spi := none } }
  if t.loader.writePending then beginWrite t else t

end Sys2Proof.Machine
end

