-- ==== Sys2Proof/Machine/Pump.lean ====
section
/-! DEFINITION. Sys2Proof/Machine/Pump.lean: the pump controller of chapter 8: changes of counted running and run time, pulses,
the pump states, protective stops, the start ring, the start guard, and the meanings of its timers and contacts. -/

namespace Sys2Proof.Machine

/-! ### Run time and counted running -/

/-- The run-minute count rises by 1, saturating; a whole multiple of 60 so reached requests a duty record write (R143, R144). -/
def addMinute (s : State) : State :=
  let n := s.pump.runMinutes + 1
  if n ≤ 16777215 then
    let t := { s with pump := { s.pump with runMinutes := n } }
    if n % 60 = 0 then requestWrite t else t
  else s

/-- Counted running begins: the minute timer starts with the rest of the minute ahead (R143). -/
def startMinutes (s : State) : State :=
  { s with pump := { s.pump with minuteTimer := ahead s (60000 - s.pump.minuteAcc) } }

/-- The accumulator at the end of counted running: the whole minute less what its timer has still to run (R143). -/
def accumulated (target now : Clock) : Int := 60000 - (target - now).toInt

/-- Counted running ends: the time elapsed goes into the accumulator, and a full one is a minute more (R143). -/
def stopMinutes (s : State) : State :=
  match s.pump.minuteTimer with
  | some t =>
    let acc := accumulated t s.clock
    let u := { s with pump := { s.pump with
      minuteTimer := none, minuteAcc := if 60000 ≤ acc then 0 else acc.toNat } }
    if 60000 ≤ acc then addMinute u else u
  | none => s

/-- A change of the own bay's counted-running value is handed on (R144): the running mark and the settle hold (R59), the minute
timer (R143), and at an end a duty record write (R170). -/
def countedChanged (x : Ctx) (s : State) : State :=
  let t := { s with fouling := { s.fouling with
    runningMark := countedRunning s, settleTimer := ahead s (x.cfg.settleTime * 1000) } }
  if countedRunning s then startMinutes t else requestWrite (stopMinutes t)

/-- The hand-over of R144 when the counted-running value is no longer what it was. -/
def noteCounted (x : Ctx) (was : Bool) (s : State) : State :=
  if countedRunning s = was then s else countedChanged x s

/-! ### The pump state and the pulses -/

/-- A change of pump state (R144): a STATUS is offered, a change of counted running is handed on, and PUMP TRIP and PUMP FAIL
follow the state (R137, R139). -/
def setPump (x : Ctx) (p : PumpState) (s : State) : State :=
  if s.pump.state = p then s
  else
    let t := offerStatus x { s with pump := { s.pump with state := p } }
    let u := noteCounted x (countedRunning s) t
    setCond x .pumpFail (p = .failed) (setCond x .pumpTrip (p = .tripped) u)

/-- A pulse issued: the other output, if on, turns off in the same step (R128). -/
def issuePulse (x : Ctx) (p : Pulse) (s : State) : State :=
  let units := if p = .start then x.cfg.startPulse else x.cfg.stopPulse
  { s with pump := { s.pump with pulse := some p, pulseTimer := ahead s (units * 100) } }

/-- A pulse in progress cut (R128). -/
def cutPulse (s : State) : State := { s with pump := { s.pump with pulse := none, pulseTimer := none } }

/-- The guard, feedback and min_run timers stop (R137, R138, R139). -/
def stopSupervision (s : State) : State :=
  { s with pump := { s.pump with guardTimer := none, feedbackTimer := none, minRunTimer := none } }

/-- Entry to STOPPED after the motor ran or was given up: the min_stop timer starts (R129, R134). -/
def enterStopped (x : Ctx) (s : State) : State :=
  setPump x .stopped
    { s with pump := { s.pump with feedbackTimer := none, minStopTimer := ahead s (x.cfg.minStop * 60000) } }

/-- Entry to STOPPING (R134). -/
def enterStopping (x : Ctx) (s : State) : State :=
  let t := issuePulse x .stop s
  setPump x .stopping
    { t with pump := { t.pump with minRunTimer := none, feedbackTimer := ahead t (x.cfg.stopTimeout * 1000) } }

/-- The protective stop at an entry to STARTING or RUNNING while SUCTION LOW or SCREEN BLOCKED is true (R136). -/
def protectOnEntry (x : Ctx) (s : State) : State :=
  if s.conds.suctionLow || s.conds.screenBlocked then enterStopping x s else s

/-- Entry to RUNNING with the min_run time counted as elapsed (R138, R139). -/
def takeOverRunning (x : Ctx) (s : State) : State :=
  protectOnEntry x (setPump x .running { s with pump := { s.pump with minRunTimer := none } })

/-- Entry to RUNNING out of STARTING (R132). -/
def enterRunning (x : Ctx) (s : State) : State :=
  protectOnEntry x (setPump x .running
    { s with pump := { s.pump with feedbackTimer := none, minRunTimer := ahead s (x.cfg.minRun * 60000) } })

/-- Entry to FAILED (R139). -/
def enterFailed (x : Ctx) (s : State) : State := setPump x .failed (stopSupervision s)

/-- Entry to TRIPPED (R137). -/
def enterTripped (x : Ctx) (s : State) : State := setPump x .tripped (stopSupervision (cutPulse s))

/-- Entry to LOCKED (R138). -/
def enterLocked (x : Ctx) (s : State) : State := setPump x .locked (stopSupervision (cutPulse s))

/-- A pending start withdrawn: the guard stops, the cause is recorded, and min_stop is left as it was (R129 to R131). -/
def withdrawStart (x : Ctx) (cause : Cause) (s : State) : State :=
  setPump x .stopped { s with pump := { s.pump with guardTimer := none, cause := cause } }

/-- A pending start loses a part of STARTABLE (R131). -/
def checkPending (x : Ctx) (s : State) : State :=
  if s.pump.state = .startPending then
    match failingPart x.cfg s with
    | some cause => withdrawStart x cause s
    | none => s
  else s

/-- The protective stop, with the cause a pending start records (R136). -/
def protectiveStop (x : Ctx) (cause : Cause) (s : State) : State :=
  match s.pump.state with
  | .starting => enterStopping x s
  | .running => enterStopping x s
  | .startPending => withdrawStart x cause s
  | .stopped | .stopping | .tripped | .failed | .locked => s

/-! ### The start ring -/

/-- The age of a recorded start, one hour in ms (R140). -/
def hourMs : Nat := 3600000

/-- The start at the clock value written into the ring (R140). -/
def recordStart (s : State) : State :=
  { s with pump := { s.pump with
      ring := s.pump.ring.set s.pump.pointer (some s.clock), pointer := s.pump.pointer + 1,
      ageTimer := if s.pump.ring.toList.all Option.isNone then ahead s hourMs else s.pump.ageTimer } }

/-- The places of the ring from the pointer on: the oldest filled slot is the first filled one among them (R140). -/
def ringOrder (pointer : Fin 6) : List (Fin 6) :=
  [pointer, pointer + 1, pointer + 2, pointer + 3, pointer + 4, pointer + 5]

/-- The oldest filled slot (R140). -/
def oldestSlot (p : Pump) : Option (Fin 6) := (ringOrder p.pointer).find? fun i => p.ring[i].isSome

/-- The age timer for the oldest filled slot, stopped when none is filled (R140). -/
def ageTimerFor (p : Pump) : Timer :=
  match oldestSlot p with
  | some i => p.ring[i].map fun t => t + ms hourMs
  | none => none

/-- The oldest slot is emptied and the timer set for the next oldest (R140). -/
def dropOldestStart (s : State) : State :=
  match oldestSlot s.pump with
  | some i =>
    let p := { s.pump with ring := s.pump.ring.set i none }
    { s with pump := { p with ageTimer := ageTimerFor p } }
  | none => { s with pump := { s.pump with ageTimer := none } }

/-- Entry to STARTING from START_PENDING (R132). -/
def enterStarting (x : Ctx) (s : State) : State :=
  let t := recordStart (issuePulse x .start s)
  protectOnEntry x (setPump x .starting
    { t with pump := { t.pump with cause := .none, feedbackTimer := ahead t (x.cfg.startTimeout * 1000) } })

/-! ### The start guard -/

/-- The foreign entry of a bay while it is PRESENT (R25). -/
def presentPeer (x : Ctx) (s : State) (b : Bay) : Option Report :=
  if b ≠ x.bay && s.peers[b].presence = .present then some s.peers[b].report else none

/-- Some PRESENT peer reports STARTING (R119, R131). -/
def peerStarting (x : Ctx) (s : State) : Bool :=
  (List.finRange 12).any fun b => match presentPeer x s b with
    | some r => r.pumpState = .starting
    | none => false

/-- The peer ranks better than the own bay by the present values (R122). -/
def ranksBetter (x : Ctx) (s : State) (b : Bay) (r : Report) : Bool :=
  r.score < s.duty.score
    || (r.score = s.duty.score && tieOrder (rotationInForce s) b < tieOrder (rotationInForce s) x.bay)

/-- The comparison of a pending start with a peer's report (R130). -/
def comparePeer (x : Ctx) (b : Bay) (r : Report) (s : State) : State :=
  if s.pump.state = .startPending then
    match r.pumpState with
    | .starting => withdrawStart x .stagger s
    | .startPending => if ranksBetter x s b r then withdrawStart x .betterStarter s else s
    | _ => s
  else s

/-- The comparison at entry, with the peer entries as they stand (R130). -/
def comparePeers (x : Ctx) (s : State) : State :=
  (List.finRange 12).foldl (fun t b => match presentPeer x s b with
    | some r => comparePeer x b r t
    | none => t) s

/-- A start wish taken in STOPPED with STARTABLE true (R129, R130). -/
def takeStartWish (x : Ctx) (s : State) : State :=
  if s.pump.state = .stopped && startable x.cfg s then
    comparePeers x (setPump x .startPending
      { s with pump := { s.pump with guardTimer := ahead s (x.cfg.startGuard * 1000) } })
  else s

/-- A stop wish taken in RUNNING with no bay conflict (R133, R142). -/
def takeStopWish (x : Ctx) (s : State) : State :=
  if s.pump.state = .running && !s.conds.bayConflict then enterStopping x s else s

/-! ### Acknowledge, isolation, conflict -/

/-- An acknowledge at the controller: it ends FAILED (R139). -/
def ackAtPump (x : Ctx) (s : State) : State :=
  if s.pump.state = .failed then
    if s.lines.run then takeOverRunning x s else enterStopped x s
  else s

/-- The stage becomes ISOLATED: a pending start is withdrawn with LINK (R131, R142). -/
def isolatedAtPump (x : Ctx) (s : State) : State :=
  if s.pump.state = .startPending then withdrawStart x .link s else s

/-- The bay conflict at the controller: a START pulse is cut and a pending start withdrawn (R128, R142). -/
def conflictAtPump (x : Ctx) (s : State) : State :=
  checkPending x (if s.pump.pulse = some .start then cutPulse s else s)

/-! ### Contacts -/

/-- RUN has closed in the present pump state (R126, R129, R131, R132). -/
def runClosedInState (x : Ctx) (s : State) : State :=
  match s.pump.state with
  | .stopped => enterFailed x s
  | .startPending => enterFailed x s
  | .starting => enterRunning x s
  | .running | .stopping | .tripped | .failed | .locked => s

/-- RUN has opened in the present pump state (R126, R133, R134). -/
def runOpenedInState (x : Ctx) (s : State) : State :=
  match s.pump.state with
  | .running => enterFailed x s
  | .stopping => if s.pump.pulse = some .stop then s else enterStopped x s
  | .stopped | .startPending | .starting | .tripped | .failed | .locked => s

/-- The state LOCKED ends in, by the contacts (R138). -/
def leaveLocked (x : Ctx) (s : State) : State :=
  if s.lines.trip then enterTripped x s
  else if s.lines.run then takeOverRunning x s
  else enterStopped x s

/-! ### Meanings -/

/-- GUARD_TIMER_EXPIRY (R131). -/
def execGuardTimerExpiry (s : State) : Host.Outcome State Fault Refusal :=
  .next <| whenLive s fun x s => onExpiry s.pump.guardTimer s fun _ s =>
    let t := { s with pump := { s.pump with guardTimer := none } }
    if t.pump.state = .startPending then
      if peerStarting x t then withdrawStart x .stagger t else enterStarting x t
    else t

/-- START_TIMEOUT (R132): the feedback timer expires in STARTING. -/
def execStartTimeout (s : State) : Host.Outcome State Fault Refusal :=
  .next <| whenLive s fun x s =>
    if s.pump.state = .starting then
      onExpiry s.pump.feedbackTimer s fun _ s => issuePulse x .stop (enterFailed x s)
    else s

/-- STOP_TIMEOUT (R134): the feedback timer expires in STOPPING. -/
def execStopTimeout (s : State) : Host.Outcome State Fault Refusal :=
  .next <| whenLive s fun x s =>
    if s.pump.state = .stopping then
      onExpiry s.pump.feedbackTimer s fun _ s => if s.lines.run then enterFailed x s else enterStopped x s
    else s

/-- PULSE_TIMER_EXPIRY (R128, R134). -/
def execPulseTimerExpiry (s : State) : Host.Outcome State Fault Refusal :=
  .next <| whenLive s fun x s => onExpiry s.pump.pulseTimer s fun _ s =>
    if s.pump.state = .stopping && s.pump.pulse = some .stop && !s.lines.run then enterStopped x (cutPulse s)
    else cutPulse s

/-- MIN_RUN_EXPIRY (R133). -/
def execMinRunExpiry (s : State) : Host.Outcome State Fault Refusal :=
  .next <| whenLive s fun _ s => onExpiry s.pump.minRunTimer s fun _ s =>
    { s with pump := { s.pump with minRunTimer := none } }

/-- MIN_STOP_EXPIRY (R129). -/
def execMinStopExpiry (s : State) : Host.Outcome State Fault Refusal :=
  .next <| whenLive s fun _ s => onExpiry s.pump.minStopTimer s fun _ s =>
    { s with pump := { s.pump with minStopTimer := none } }

/-- START_RING_AGE_EXPIRY (R140). -/
def execStartRingAgeExpiry (s : State) : Host.Outcome State Fault Refusal :=
  .next <| whenLive s fun _ s => onExpiry s.pump.ageTimer s fun _ s => dropOldestStart s

/-- MINUTE_TIMER_EXPIRY (R143). -/
def execMinuteTimerExpiry (s : State) : Host.Outcome State Fault Refusal :=
  .next <| whenLive s fun _ s => onExpiry s.pump.minuteTimer s fun t s =>
    addMinute { s with pump := { s.pump with minuteTimer := rearmed t 60000, minuteAcc := 0 } }

/-- RUN_CLOSES (R126). The line is moved in every phase; the controller acts once it reads the contacts. -/
def execRunCloses (s : State) : Host.Outcome State Fault Refusal :=
  .next <|
    if s.lines.run then s
    else
      let was := countedRunning s
      whenLive { s with lines := { s.lines with run := true } } fun x s => runClosedInState x (noteCounted x was s)

/-- RUN_OPENS (R126). -/
def execRunOpens (s : State) : Host.Outcome State Fault Refusal :=
  .next <|
    if s.lines.run then
      let was := countedRunning s
      whenLive { s with lines := { s.lines with run := false } } fun x s => runOpenedInState x (noteCounted x was s)
    else s

/-- TRIP_CLOSES (R126, R137). -/
def execTripCloses (s : State) : Host.Outcome State Fault Refusal :=
  .next <|
    if s.lines.trip then s
    else whenLive { s with lines := { s.lines with trip := true } } fun x s =>
      if s.pump.state = .locked then s else enterTripped x s

/-- TRIP_OPENS (R137). -/
def execTripOpens (s : State) : Host.Outcome State Fault Refusal :=
  .next <|
    if s.lines.trip then
      whenLive { s with lines := { s.lines with trip := false } } fun x s =>
        if s.pump.state = .tripped then
          if s.lines.run then enterFailed x s else enterStopped x s
        else s
    else s

/-- LOCAL_CLOSES (R126, R138). -/
def execLocalCloses (s : State) : Host.Outcome State Fault Refusal :=
  .next <|
    if s.lines.localSel then s
    else whenLive { s with lines := { s.lines with localSel := true } } enterLocked

/-- LOCAL_OPENS (R138). -/
def execLocalOpens (s : State) : Host.Outcome State Fault Refusal :=
  .next <|
    if s.lines.localSel then
      whenLive { s with lines := { s.lines with localSel := false } } fun x s =>
        if s.pump.state = .locked then leaveLocked x s else s
    else s

end Sys2Proof.Machine
end

