-- ==== Sys2Proof/Machine/Screen.lean ====
section
/-! DEFINITION. Sys2Proof/Machine/Screen.lean: the screen controller of chapter 6: the drive, the spray, the wash state machine,
trigger checks, aborts, and the meanings of its timers and inputs. -/

namespace Sys2Proof.Machine

/-! ### Drive and spray -/

/-- The stall window at a speed, in ms (R106). -/
def stallWindowMs (c : Settings) : Drive → Nat
  | .fast => c.stallFast * 100
  | _ => c.stallSlow * 100

/-- The drive set to d (R104): a turn-on clears the shaft capture (R105) and starts the stall window, a change of speed restarts
it, a turn-off stops it (R106). -/
def setDrive (x : Ctx) (d : Drive) (s : State) : State :=
  if d = s.screen.drive then s
  else if d = .off then { s with screen := { s.screen with drive := .off, stallTimer := none } }
  else if s.screen.drive = .off then
    { s with screen := { s.screen with
        drive := d, prescale := 0, lastCapture := none, period := 0, stallTimer := ahead s (stallWindowMs x.cfg d) } }
  else { s with screen := { s.screen with drive := d, stallTimer := ahead s (stallWindowMs x.cfg d) } }

/-- The drive chosen afresh (R103). -/
def selectDrive (x : Ctx) (s : State) : State := setDrive x (driveChoice s) s

/-- SPRAY turns on; the header timer starts when HEADER is open (R102, R108). -/
def sprayOn (x : Ctx) (s : State) : State :=
  if s.screen.spray then s
  else { s with screen := { s.screen with
    spray := true, headerTimer := if s.lines.header then s.screen.headerTimer else ahead s (x.cfg.headerDelay * 1000) } }

/-- SPRAY turns off, which stops the header timer (R102, R108). -/
def sprayOff (s : State) : State :=
  { s with screen := { s.screen with spray := false, headerTimer := none } }

/-- The cycle timer stops and its count returns to 0 (R96, R98, R100). -/
def stopCycle (s : State) : State :=
  { s with screen := { s.screen with cycleTimer := none, cycleCount := 0 } }

/-! ### The wash state machine -/

/-- A change of wash state: the drive is chosen afresh (R103) and a STATUS is offered (R109). -/
def setWash (x : Ctx) (w : WashState) (s : State) : State :=
  if s.screen.wash = w then s
  else offerStatus x (selectDrive x { s with screen := { s.screen with wash := w } })

/-- The wash stops drawing on the header: SPRAY off, cycle timer stopped. -/
def stopWashing (s : State) : State := stopCycle (sprayOff s)

/-- A RELEASE with the claim tag handed over, and RELEASING (R97, R98). -/
def releaseClaim (x : Ctx) (s : State) : State :=
  setWash x .releasing (offer x (.release s.screen.tag) (stopWashing s))

/-- The cycle timer starts, one period ahead (R100). -/
def startCycleTimer (s : State) : State := { s with screen := { s.screen with cycleTimer := ahead s 100 } }

/-- A fresh cycle: count 0, compare A tested at once (R100). Its timer is already one period ahead: started at the change to WASHING,
and at a cycle end moved on by the expiry, from target to target as R1 has it. -/
def freshCycle (x : Ctx) (s : State) : State :=
  let t := { s with screen := { s.screen with cycleCount := 0 } }
  if t.screen.working.sprayPoint = 0 then sprayOn x t else t

/-- The set in force is taken into the working copy (R101). -/
def loadWorking (x : Ctx) (s : State) : State :=
  { s with screen := { s.screen with working := washSetInForce x.cfg s } }

/-- The completed cycles meet or exceed the cycles of the working copy (R100). -/
def washComplete (s : State) : Bool := s.screen.working.cycles ≤ s.screen.completed

/-- After the working copy is loaded: the wash completes (R97) or a fresh cycle begins (R100, R101). -/
def continueWash (x : Ctx) (s : State) : State := if washComplete s then releaseClaim x s else freshCycle x s

/-- The change to WASHING, from CLAIMING, WAITING or YIELDED (R95, R96, R101). -/
def enterWashing (x : Ctx) (s : State) : State :=
  continueWash x (loadWorking x (startCycleTimer (setWash x .washing s)))

/-- The change to YIELDED: the cycle is abandoned, SPRAY turns off, the completed cycles are kept (R96). -/
def yieldWash (x : Ctx) (s : State) : State := setWash x .yielded (stopWashing s)

/-- A new own standing handed over by the claim list (R95, R96, R97). -/
def handStanding (x : Ctx) (st : Standing) (s : State) : State :=
  match s.screen.wash, st with
  | .claiming, .inRange => enterWashing x s
  | .claiming, .beyondRange => setWash x .waiting s
  | .waiting, .inRange => enterWashing x s
  | .washing, .beyondRange => yieldWash x s
  | .yielded, .inRange => enterWashing x s
  | _, _ => s

/-- The wash end, from RELEASING to IDLE: gap timer and interval timer start (R97). -/
def washEnd (x : Ctx) (s : State) : State :=
  if s.screen.wash = .releasing then
    setWash x .idle
      { s with screen := { s.screen with
          gapTimer := ahead s (x.cfg.minWashGap * 60000), intervalDue := false,
          intervalTimer := if x.cfg.maxWashInterval = 0 then none else ahead s (x.cfg.maxWashInterval * 60000) } }
  else s

/-- The drop of the own CLAIM, told to the controller (R95): CLAIMING returns to IDLE, and no wash end is made. -/
def claimDropped (x : Ctx) (s : State) : State :=
  if s.screen.wash = .claiming then setWash x .idle s else s

/-- A wash is aborted (R98). In CLAIMING a CLAIM that still waits is cancelled in the queue (R159). -/
def abortWash (x : Ctx) (s : State) : State :=
  match s.screen.wash with
  | .idle => s
  | .releasing => s
  | .claiming =>
    if s.link.queue.any (isClaimOf s.screen.tag) then
      setWash x .idle { s with link := { s.link with queue := s.link.queue.filter fun f => !isClaimOf s.screen.tag f } }
    else releaseClaim x s
  | .waiting => releaseClaim x s
  | .washing => releaseClaim x s
  | .yielded => releaseClaim x s

/-- The bay conflict at the controller: IDLE at once with the drive off and no frame (R99). -/
def conflictAtScreen (x : Ctx) (s : State) : State := selectDrive x (setWash x .idle (stopWashing s))

/-! ### Trigger checks -/

/-- The events that bring a trigger check (R92). -/
inductive TriggerEvent where
  | foulingUpdate | manualWash | swarmRise | gapExpiry
deriving DecidableEq, Repr

/-- An URGENT trigger holds (R92). -/
def urgentTrigger (c : Settings) (e : TriggerEvent) (s : State) : Bool :=
  (c.urgentThreshold ≤ s.fouling.index && !s.fouling.stale)
    || (e = .swarmRise && c.swarmUrgentSum ≤ s.fouling.intensity)

/-- A ROUTINE trigger holds (R92). -/
def routineTrigger (c : Settings) (e : TriggerEvent) (s : State) : Bool :=
  (washThresholdInForce c s ≤ s.fouling.index && !s.fouling.stale) || s.screen.intervalDue || e = .manualWash
    || (e = .swarmRise && s.fouling.intensity < c.swarmUrgentSum)

/-- A block on every claim: a stall or its alarm not NORMAL, the retry timer, a bay conflict (R93). -/
def claimsBlocked (s : State) : Bool :=
  s.conds.screenStall || alarmState s .screenStall ≠ .normal || s.screen.retryTimer.isSome || s.conds.bayConflict

/-- A block on ROUTINE claims alone: ISOLATED, or the gap timer (R93). -/
def routineBlocked (s : State) : Bool := s.ladder.stage = .isolated || s.screen.gapTimer.isSome

/-- The claim a trigger check chooses, if any (R93). -/
def chosenClass (c : Settings) (e : TriggerEvent) (s : State) : Option ClaimClass :=
  if urgentTrigger c e s && !claimsBlocked s then some .urgent
  else if routineTrigger c e s && !claimsBlocked s && !routineBlocked s then some .routine
  else none

/-- The duration a claim carries: cycles times cycle period of the set in force (R94). -/
def claimDuration (w : WashSet) : Nat := w.cycles * w.period

/-- A claim is made (R94): the tag advances, the CLAIM is handed over, and the wash state becomes CLAIMING. -/
def makeClaim (x : Ctx) (k : ClaimClass) (s : State) : State :=
  let tag := (s.screen.tag + 1) % 16
  let t := { s with screen := { s.screen with tag := tag, cls := k, completed := 0 } }
  setWash x .claiming (offer x (.claim tag k (claimDuration (washSetInForce x.cfg s))) t)

/-- A trigger check (R92, R93): made while the wash state is IDLE and the phase OPERATING. -/
def triggerCheck (x : Ctx) (e : TriggerEvent) (s : State) : State :=
  if s.screen.wash = .idle && s.loader.phase = .operating then
    match chosenClass x.cfg e s with
    | some k => makeClaim x k s
    | none => s
  else s

/-! ### Stall and header failure -/

/-- The rise of SCREEN STALL: the drive goes OFF, the wash is aborted, alarm 13 rises, in this order (R106). -/
def stallRises (x : Ctx) (s : State) : State :=
  let t := { s with conds := { s.conds with screenStall := true } }
  let u := abortWash x (selectDrive x t)
  if s.conds.screenStall then u else annunciate x .screenStall true u

/-- An acknowledge at the controller: SCREEN STALL falls and the drive is chosen afresh (R107). -/
def ackAtScreen (x : Ctx) (s : State) : State :=
  if s.conds.screenStall then selectDrive x (setCond x .screenStall false s) else s

/-- The rise of WASH WATER FAIL: the wash is aborted, the retry timer starts, alarm 14 rises (R108). -/
def headerFails (x : Ctx) (s : State) : State :=
  let t := abortWash x s
  setCond x .washWaterFail true
    { t with screen := { t.screen with retryTimer := ahead t (x.cfg.washRetry * 60000) } }

/-! ### The cycle -/

/-- The cycle end at compare B (R100). -/
def cycleEnd (x : Ctx) (s : State) : State :=
  let t := sprayOff s
  continueWash x (loadWorking x { t with screen := { t.screen with completed := t.screen.completed + 1 } })

/-- One expiry of the cycle timer after its target has moved on: the count rises, compare A and compare B are tested (R100). -/
def cycleStep (x : Ctx) (s : State) : State :=
  let t := { s with screen := { s.screen with cycleCount := s.screen.cycleCount + 1 } }
  let u := if t.screen.cycleCount = t.screen.working.sprayPoint then sprayOn x t else t
  if u.screen.cycleCount = u.screen.working.period then cycleEnd x u else u

/-! ### The shaft -/

/-- The screen period between two captures, in ms, saturating (R105). -/
def capturedPeriod (last : Option Clock) (now : Clock) (before : Nat) : Nat :=
  match last with
  | some l => min (now - l).toNat 65535
  | none => before

/-- A prescaled edge: captured while the drive is on, and the stall window restarts (R105, R106). -/
def prescaledEdge (x : Ctx) (s : State) : State :=
  if s.screen.drive = .off then s
  else { s with screen := { s.screen with
    period := capturedPeriod s.screen.lastCapture s.clock s.screen.period, lastCapture := some s.clock,
    stallTimer := ahead s (stallWindowMs x.cfg s.screen.drive) } }

/-- A rising edge of SHAFT at the prescaler (R105). -/
def shaftRises (x : Ctx) (s : State) : State :=
  if 2 ^ x.cfg.shaftPrescale ≤ s.screen.prescale + 1 then
    prescaledEdge x { s with screen := { s.screen with prescale := 0 } }
  else { s with screen := { s.screen with prescale := s.screen.prescale + 1 } }

/-! ### Meanings -/

/-- GAP_TIMER_EXPIRY (R97): the timer stops and a trigger check is made. -/
def execGapTimerExpiry (s : State) : Host.Outcome State Fault Refusal :=
  .next <| whenLive s fun x s => onExpiry s.screen.gapTimer s fun _ s =>
    triggerCheck x .gapExpiry { s with screen := { s.screen with gapTimer := none } }

/-- INTERVAL_TIMER_EXPIRY (R97): the interval due mark is set and the timer stops. -/
def execIntervalTimerExpiry (s : State) : Host.Outcome State Fault Refusal :=
  .next <| whenLive s fun _ s => onExpiry s.screen.intervalTimer s fun _ s =>
    { s with screen := { s.screen with intervalTimer := none, intervalDue := true } }

/-- CYCLE_TIMER_EXPIRY (R100). -/
def execCycleTimerExpiry (s : State) : Host.Outcome State Fault Refusal :=
  .next <| whenLive s fun x s => onExpiry s.screen.cycleTimer s fun t s =>
    cycleStep x { s with screen := { s.screen with cycleTimer := rearmed t 100 } }

/-- SHAFT_EDGE (R105). -/
def execShaftEdge (s : State) : Host.Outcome State Fault Refusal :=
  .next <| whenLive s shaftRises

/-- STALL_TIMER_EXPIRY (R106). -/
def execStallTimerExpiry (s : State) : Host.Outcome State Fault Refusal :=
  .next <| whenLive s fun x s => onExpiry s.screen.stallTimer s fun _ s =>
    stallRises x { s with screen := { s.screen with stallTimer := none } }

/-- HEADER_OPENS (R108): while SPRAY is on, the header timer starts. -/
def execHeaderOpens (s : State) : Host.Outcome State Fault Refusal :=
  .next <|
    if s.lines.header then
      whenLive { s with lines := { s.lines with header := false } } fun x s =>
        if s.screen.spray then
          { s with screen := { s.screen with headerTimer := ahead s (x.cfg.headerDelay * 1000) } }
        else s
    else s

/-- HEADER_CLOSES (R108): the header timer stops. -/
def execHeaderCloses (s : State) : Host.Outcome State Fault Refusal :=
  .next <|
    if s.lines.header then s
    else whenLive { s with lines := { s.lines with header := true } } fun _ s =>
      { s with screen := { s.screen with headerTimer := none } }

/-- HEADER_TIMER_EXPIRY (R108). -/
def execHeaderTimerExpiry (s : State) : Host.Outcome State Fault Refusal :=
  .next <| whenLive s fun x s => onExpiry s.screen.headerTimer s fun _ s =>
    headerFails x { s with screen := { s.screen with headerTimer := none } }

/-- RETRY_TIMER_EXPIRY (R108): WASH WATER FAIL falls. -/
def execRetryTimerExpiry (s : State) : Host.Outcome State Fault Refusal :=
  .next <| whenLive s fun x s => onExpiry s.screen.retryTimer s fun _ s =>
    setCond x .washWaterFail false { s with screen := { s.screen with retryTimer := none } }

end Sys2Proof.Machine
end

