-- ==== Sys2Proof/Machine/Loader.lean ====
section
/-! DEFINITION. Sys2Proof/Machine/Loader.lean: the settings loader of chapter 11: reset, loading, adoption of the pump state (R127),
LISTENING entry (R165), and the duty record write, with the meanings of the loader's commands. -/

namespace Sys2Proof.Machine

/-! ### Reset and loading -/

/-- Every block at the values of its chapter (R164). What belongs to the outside stays: the input lines and the waiting commands,
and the index of the free choices. -/
def resetStation (s : State) : State :=
  { State.reset with pending := s.pending, choices := s.choices, lines := s.lines }

/-- Memory address of the configuration image and of the duty record, with their lengths (R165). -/
def imageRead : Spi := .read 0 100
def recordRead : Spi := .read 128 5

/-- The own bay of a strap value; 0 and 13 to 15 are refused (R165). -/
def bayOfStraps (straps : BitVec 4) : Option Bay :=
  if h : 1 ≤ straps.toNat ∧ straps.toNat ≤ 12 then some ⟨straps.toNat - 1, by omega⟩ else none

/-- HALTED entry, from LOADING (R164, R170): nothing runs there, and SPI_CS is high. -/
def enterHalted (s : State) : State := { s with loader := { s.loader with phase := .halted, spi := none } }

/-- The pump state the contacts give at adoption (R127). -/
def adoptedState (l : Lines) : PumpState :=
  if l.localSel then .locked else if l.trip then .tripped else if l.run then .running else .stopped

/-- Adoption of the pump state, once, from the contacts (R127). -/
def adopt (c : Settings) (s : State) : State :=
  let p := adoptedState s.lines
  { s with
    pump := { s.pump with
      state := p, minRunTimer := none, minStopTimer := if p = .stopped then ahead s (c.minStop * 60000) else none },
    conds := { s.conds with pumpTrip := p = .tripped } }

/-- The timers the blocks start at LISTENING entry (R2, R19, R35, R65, R84, R113). -/
def startTimers (x : Ctx) (s : State) : State :=
  { s with
    front := { s.front with sampleTimer := some s.clock },
    ageingTimer := ahead s (statusPeriodMs x.cfg),
    tide := { s.tide with timer := ahead s (x.cfg.tideInterval * 1000) },
    fouling := { s.fouling with
      runningMark := countedRunning s,
      trendTimer := if 1 ≤ x.cfg.swarmCount then ahead s (x.cfg.trendInterval * 60000) else none },
    claims := { s.claims with rangeTimer := ahead s 100 },
    duty := { s.duty with timer := ahead s (x.cfg.dutyInterval * 1000) } }

/-- The own entry becomes PRESENT (R18). -/
def ownEntryPresent (x : Ctx) (s : State) : State :=
  { s with peers := s.peers.set x.bay { s.peers[x.bay] with presence := .present, age := 0 } }

/-- The transmitter becomes IDLE, the status timer starts and a STATUS is offered (R154). -/
def startLink (x : Ctx) (s : State) : State :=
  offerStatus x { s with link := { s.link with tx := .idle, statusTimer := ahead s (statusPeriodMs x.cfg) } }

/-- LISTENING entry, in the order of the table of R165. -/
def enterListening (x : Ctx) (s : State) : State :=
  let a := { s with loader := { s.loader with phase := .listening, spi := none } }
  let b := selectDrive x (startTimers x (ownEntryPresent x a))
  let c := if countedRunning b then startMinutes b else b
  let d := if c.conds.pumpTrip then annunciate x .pumpTrip true c else c
  startLink x d

/-- The record as read: the run-minute count and a good mark, or a lost mark (R168). -/
def recordTaken (record : List Byte) (s : State) : State :=
  match readRecord record with
  | some n => { s with loader := { s.loader with mark := .good }, pump := { s.pump with runMinutes := n } }
  | none => { s with loader := { s.loader with mark := .lost } }

/-- The loader waits for the end of a READ, in LOADING with the reset over (R165). -/
def awaits (r : Spi) (s : State) : Bool := !s.inReset && s.loader.phase = .loading && s.loader.spi = some r

/-! ### The duty record write -/

/-- One READ STATUS ended with a status byte (R170). -/
def pollResult (status : Byte) (s : State) : State :=
  if !status.getLsbD 0 then endWrite s
  else
    let n := s.loader.pollCount + 1
    let t := { s with loader := { s.loader with pollCount := n, spi := none } }
    if 50 ≤ n then endWrite t else t

/-- An acknowledge at the loader: DUTY RECORD LOST falls (R150). -/
def ackAtLoader (x : Ctx) (s : State) : State := setCond x .dutyRecordLost false s

/-! ### Meanings -/

/-- RESET (R164). -/
def execReset (s : State) : Host.Outcome State Fault Refusal :=
  .next (resetStation s)

/-- RESET_END (R165 step 1, R164): LOADING begins, the straps are read, and the READ of the image begins. -/
def execResetEnd (straps : BitVec 4) (s : State) : Host.Outcome State Fault Refusal :=
  .next <|
    if s.inReset then
      let t := { s with inReset := false }
      match bayOfStraps straps with
      | some b => { t with loader := { t.loader with phase := .loading, bay := some b, spi := some imageRead } }
      | none => enterHalted t
    else s

/-- CONFIG_IMAGE_READ_DONE (R165 step 2, R167). -/
def execConfigImageReadDone (image : List Byte) (s : State) : Host.Outcome State Fault Refusal :=
  .next <|
    if awaits imageRead s then
      match readImage image with
      | some c =>
        { s with loader := { s.loader with cfg := some c, spi := some recordRead },
                 screen := { s.screen with working := c.routineSet } }
      | none => enterHalted s
    else s

/-- DUTY_RECORD_READ_DONE (R165 steps 3 and 4, R168, R127): the record is judged, the pump state adopted, LISTENING entered. -/
def execDutyRecordReadDone (record : List Byte) (s : State) : Host.Outcome State Fault Refusal :=
  .next <|
    if awaits recordRead s then
      match s.loader.bay, s.loader.cfg with
      | some b, some c => enterListening ⟨b, c⟩ (adopt c (recordTaken record s))
      | _, _ => s
    else s

/-- WRITE_ENABLE_DONE (R170): PROGRAM, and PAGE WRITE of the present count with its CRC. -/
def execWriteEnableDone (s : State) : Host.Outcome State Fault Refusal :=
  .next <| whenLive s fun _ s =>
    if s.loader.write = .enable then
      { s with loader := { s.loader with
        write := .program, spi := some (.pageWrite 128 (recordBytes s.pump.runMinutes)) } }
    else s

/-- PAGE_WRITE_DONE (R170): POLL, with the poll count 0 and the first poll 1 ms ahead. -/
def execPageWriteDone (s : State) : Host.Outcome State Fault Refusal :=
  .next <| whenLive s fun _ s =>
    if s.loader.write = .program then
      { s with loader := { s.loader with write := .poll, pollCount := 0, pollTimer := ahead s 1, spi := none } }
    else s

/-- POLL_TIMER_EXPIRY (R170): a READ STATUS transaction begins. -/
def execPollTimerExpiry (s : State) : Host.Outcome State Fault Refusal :=
  .next <| whenLive s fun _ s => onExpiry s.loader.pollTimer s fun t s =>
    { s with loader := { s.loader with pollTimer := rearmed t 1, spi := some .readStatus } }

/-- READ_STATUS_DONE (R170). -/
def execReadStatusDone (status : Byte) (s : State) : Host.Outcome State Fault Refusal :=
  .next <| whenLive s fun _ s =>
    if s.loader.write = .poll && s.loader.spi = some .readStatus then pollResult status s else s

end Sys2Proof.Machine
end

