-- ==== Sys2Proof/Machine/Annunciator.lean ====
section
/-! DEFINITION. Sys2Proof/Machine/Annunciator.lean: acknowledgement (R147, R148) and the meanings of the ACK line. -/

namespace Sys2Proof.Machine

/-- Every entry after an acknowledge; the entry of a disabled alarm is not moved (R147, R149). -/
def ackedEntries (c : Settings) (alarms : Vector AlarmState 17) : Vector AlarmState 17 :=
  Vector.ofFn fun i : Fin 17 => if alarmEnabled c i.val then entryAfterAck alarms[i] else alarms[i]

/-- The entries moved by an acknowledge; one STATUS is offered when any has moved (R152). -/
def ackEntries (x : Ctx) (s : State) : State :=
  let after := ackedEntries x.cfg s.alarms
  if after = s.alarms then s else offerStatus x { s with alarms := after }

/-- An acknowledge: the entries move, and it is handed on to the pump controller, the screen controller and the settings loader
(R147). -/
def acknowledge (x : Ctx) (s : State) : State :=
  ackAtLoader x (ackAtScreen x (ackAtPump x (ackEntries x s)))

/-- ACK_RISING_EDGE (R148). -/
def execAckRisingEdge (s : State) : Host.Outcome State Fault Refusal :=
  .next <|
    if s.lines.ack then s
    else whenLive { s with lines := { s.lines with ack := true } } acknowledge

/-- ACK_FALLING_EDGE (R148): no acknowledge. -/
def execAckFallingEdge (s : State) : Host.Outcome State Fault Refusal :=
  .next { s with lines := { s.lines with ack := false } }

end Sys2Proof.Machine
end

