-- ==== Sys2Proof/Machine/Claims.lean ====
section
/-! DEFINITION. Sys2Proof/Machine/Claims.lean: the wash claim list of chapter 5 and every event that changes it, and the meaning of
its range timer. -/

namespace Sys2Proof.Machine

/-- The entry stands in the grant range by its position (R72). -/
def inGrantRange (c : Settings) (position : Nat) : Bool := position < c.washHeaders

/-- The in-range times the order of a list allows: 0 beyond the grant range, and 0 for the own entry everywhere (R72, R85). -/
def regraded (x : Ctx) (l : List Claim) : List Claim :=
  l.mapIdx fun i e => if inGrantRange x.cfg i && e.bay ≠ x.bay then e else { e with inRange := 0 }

/-- The own standing in a list (R73). -/
def standingIn (x : Ctx) (l : List Claim) : Standing :=
  match l.findIdx? (fun e => e.bay = x.bay) with
  | some i => if inGrantRange x.cfg i then .inRange else .beyondRange
  | none => .none

/-- One change of the list: the own standing is formed after it and handed to the screen controller when it differs (R73). -/
def changeList (x : Ctx) (l : List Claim) (s : State) : State :=
  let before := standingIn x s.claims.entries
  let t := { s with claims := { s.claims with entries := regraded x l } }
  let after := standingIn x l
  if after = before then t else handStanding x after t

/-- The list without the entry of a bay (R72). -/
def withoutBay (b : Bay) (l : List Claim) : List Claim := l.filter fun e => e.bay ≠ b

/-- The entry is a ROUTINE one. -/
def isRoutine (e : Claim) : Bool := e.cls = .routine

/-- A new entry placed by its class (R75): URGENT directly behind the last URGENT entry, ROUTINE at the end. -/
def placed (e : Claim) (l : List Claim) : List Claim :=
  match e.cls with
  | .urgent => l.rdropWhile isRoutine ++ e :: l.rtakeWhile isRoutine
  | .routine => l ++ [e]

/-- An insertion: the bay's old entry removed and the new one placed, as one change (R75). -/
def insertClaim (x : Ctx) (b : Bay) (tag : Nat) (k : ClaimClass) (duration : Nat) (s : State) : State :=
  changeList x (placed ⟨b, tag, k, duration, 0⟩ (withoutBay b s.claims.entries)) s

/-- The removal of a bay's entry, if the list holds one (R79, R83). -/
def removeClaim (x : Ctx) (b : Bay) (s : State) : State :=
  if s.claims.entries.any (fun e => e.bay = b) then changeList x (withoutBay b s.claims.entries) s else s

/-- The list holds an entry of the bay with the tag. -/
def holdsClaim (b : Bay) (tag : Nat) (s : State) : Bool := s.claims.entries.any fun e => e.bay = b && e.tag = tag

/-- The removal by a RELEASE: the entry of the bay whose tag is the frame's (R77, R78). -/
def removeReleased (x : Ctx) (b : Bay) (tag : Nat) (s : State) : State :=
  if holdsClaim b tag s then removeClaim x b s else s

/-- The removal of every foreign entry on entry to ISOLATED (R87). -/
def stripForeign (x : Ctx) (s : State) : State :=
  changeList x (s.claims.entries.filter fun e => e.bay = x.bay) s

/-- The duration of a repaired entry: the own routine set's (R82). -/
def repairDuration (x : Ctx) : Nat := claimDuration x.cfg.routineSet

/-- The repair from a stored STATUS (R79 to R81). -/
def repairFromStatus (x : Ctx) (b : Bay) (r : Report) (s : State) : State :=
  match r.wash with
  | .idle => removeClaim x b s
  | .claiming => s
  | .releasing => s
  | .waiting => if holdsClaim b r.tag s then s else insertClaim x b r.tag r.cls (repairDuration x) s
  | .washing => if holdsClaim b r.tag s then s else insertClaim x b r.tag r.cls (repairDuration x) s
  | .yielded => if holdsClaim b r.tag s then s else insertClaim x b r.tag r.cls (repairDuration x) s

/-- An entry after one range expiry at its position: a foreign entry in the grant range counts one unit, saturating (R84). -/
def countedInRange (x : Ctx) (position : Nat) (e : Claim) : Claim :=
  if inGrantRange x.cfg position && e.bay ≠ x.bay then { e with inRange := min (e.inRange + 1) 65535 } else e

/-- The limit of an entry: its duration plus 10 × claim_margin (R84). -/
def overLimit (x : Ctx) (position : Nat) (e : Claim) : Bool :=
  inGrantRange x.cfg position && e.bay ≠ x.bay && e.duration + 10 * x.cfg.claimMargin < e.inRange

/-- The list after one range expiry: the entries past their limit are removed together (R84). -/
def afterRangeExpiry (x : Ctx) (l : List Claim) : List Claim :=
  let counted := l.mapIdx (countedInRange x)
  (counted.zipIdx.filter fun p => !overLimit x p.2 p.1).map Prod.fst

/-- RANGE_TIMER_EXPIRY (R84). -/
def execRangeTimerExpiry (s : State) : Host.Outcome State Fault Refusal :=
  .next <| whenLive s fun x s => onExpiry s.claims.rangeTimer s fun t s =>
    changeList x (afterRangeExpiry x s.claims.entries) { s with claims := { s.claims with rangeTimer := rearmed t 100 } }

end Sys2Proof.Machine
end

