-- ==== Sys2Proof/Machine/DutyRanker.lean ====
section
/-! DEFINITION. Sys2Proof/Machine/DutyRanker.lean: the duty ranker of chapter 7 and the meaning of its timer. -/

namespace Sys2Proof.Machine

/-! ### What an evaluation reads (R114) -/

/-- The properties of a counted bay. -/
structure BayView where
  bay       : Bay
  running   : Bool
  eligible  : Bool
  startable : Bool
  state     : PumpState
  feedback  : Bool
  hours     : Nat
  score     : Nat
deriving DecidableEq, Repr

/-- The own bay, by its present values (R114); its score is the one an evaluation forms. -/
def ownView (x : Ctx) (score : Nat) (s : State) : BayView :=
  { bay := x.bay, running := countedRunning s, eligible := eligible s, startable := startable x.cfg s, state := s.pump.state,
    feedback := s.lines.run, hours := runHours s, score := score }

/-- A PRESENT peer, by its report (R114). -/
def peerView (b : Bay) (r : Report) : BayView :=
  { bay := b, running := countsRunning r.pumpState r.runFeedback, eligible := r.eligible, startable := r.startable,
    state := r.pumpState, feedback := r.runFeedback, hours := r.runHours, score := r.score }

/-- The PRESENT peers. -/
def peerViews (x : Ctx) (s : State) : List BayView :=
  (List.finRange 12).filterMap fun b => (presentPeer x s b).map (peerView b)

/-- A candidate, by the definition of R114 alone. A peer report of ELIGIBLE in LOCKED or FAILED with RUN FEEDBACK, which R22 lets pass,
makes a candidate that U counts as well (DESIGN CHOICE, unsafe; log 16). -/
def isCandidate (v : BayView) : Bool := v.eligible && (v.running || v.startable)

/-- An uncommanded running bay (R114). -/
def isUncommanded (v : BayView) : Bool := (v.state = .locked || v.state = .failed) && v.feedback

/-- A running non-candidate (R114). -/
def isRunningNonCandidate (v : BayView) : Bool := v.running && !isCandidate v && !isUncommanded v

/-! ### The score -/

/-- The least run hours among the candidates, of which the own bay is one (R115). -/
def leastHours (own : BayView) (peers : List BayView) : Nat :=
  (peers.filter isCandidate).foldl (fun m v => min m v.hours) own.hours

/-- The hours term (R115). -/
def hoursTerm (own : BayView) (peers : List BayView) : Nat := min (own.hours - leastHours own peers) 255

/-- The fouling term (R116). -/
def foulingTerm (c : Settings) (s : State) : Nat :=
  s.fouling.index * (if s.fouling.swarm then 2 * c.foulingWeight else c.foulingWeight) / 4

/-- The well margin clamped to 0 to Mref (R116). -/
def clampedMargin (c : Settings) (s : State) : Nat :=
  min (s.front.inner.level - c.pumpStopLevel).toNat c.marginRef

/-- The margin term (R116). -/
def marginTerm (c : Settings) (s : State) : Nat := (c.marginRef - clampedMargin c s) / 16

/-- The own score of a candidate (R116). -/
def candidateScore (x : Ctx) (own : BayView) (peers : List BayView) (s : State) : Nat :=
  let raw := hoursTerm own peers + foulingTerm x.cfg s + marginTerm x.cfg s
  if s.pump.state = .running then raw - x.cfg.runAllowance else raw

/-- The own score an evaluation forms: 1023 when the own bay is not a candidate (R116). -/
def evaluatedScore (x : Ctx) (s : State) : Nat :=
  let own := ownView x 0 s
  if isCandidate own then candidateScore x own (peerViews x s) s else 1023

/-! ### N_target and the ranking -/

/-- The counted bays in bay order, the own one with the score just formed (R118). -/
def countedViews (x : Ctx) (s : State) : List BayView :=
  let own := ownView x (evaluatedScore x s) s
  (List.finRange 12).filterMap fun b =>
    if b = x.bay then some own else (presentPeer x s b).map (peerView b)

/-- N_target (R117). -/
def targetCount (demand cap uncommanded candidates : Nat) : Nat := min (min demand cap - uncommanded) candidates

/-- The order of the candidates: by score, and among equal scores by tie order (R118). -/
def rankKey (rotation : Nat) (v : BayView) : Nat := v.score * 12 + tieOrder rotation v.bay

/-- The candidates in rank order (R118). -/
def rankedCandidates (rotation : Nat) (views : List BayView) : List BayView :=
  (views.filter isCandidate).insertionSort fun a b => rankKey rotation a ≤ rankKey rotation b

/-- The running non-candidates by tie order (R118). -/
def rankedOthers (rotation : Nat) (views : List BayView) : List BayView :=
  (views.filter isRunningNonCandidate).insertionSort fun a b => tieOrder rotation a.bay ≤ tieOrder rotation b.bay

/-- The ranking: candidates first, running non-candidates behind them (R118). -/
def rankingOf (rotation : Nat) (views : List BayView) : List BayView :=
  rankedCandidates rotation views ++ rankedOthers rotation views

/-- The rank of a bay in a ranking, counted from 1 (R118). -/
def rankIn (b : Bay) (ranking : List BayView) : Option Nat :=
  (ranking.findIdx? fun v => v.bay = b).map (· + 1)

/-- Steps 1 to 4 of an evaluation, as the ranker's new state (R113 to R118). -/
def evaluate (x : Ctx) (s : State) : Duty :=
  let views := countedViews x s
  let ranking := rankingOf (rotationInForce s) views
  let candidates := views.filter isCandidate
  { s.duty with
    score := evaluatedScore x s,
    candidates := candidates.map BayView.bay,
    ranking := ranking.map BayView.bay,
    ownRank := rankIn x.bay ranking,
    nTarget := targetCount (demandInForce x.cfg s) (tideCap x.cfg s) (views.countP isUncommanded) candidates.length,
    running := candidates.countP BayView.running,
    stopCount := ranking.countP BayView.running }

/-! ### The wishes -/

/-- The bay is counted running in the own view (R114). -/
def runsInView (x : Ctx) (s : State) (b : Bay) : Bool :=
  if b = x.bay then countedRunning s
  else match presentPeer x s b with
    | some r => countsRunning r.pumpState r.runFeedback
    | none => false

/-- Test 6 of R119: the own rank is within N_target, and a place is open or a changeover is due. -/
def startNeeded (x : Ctx) (s : State) : Bool :=
  match s.duty.ownRank with
  | some n => n ≤ s.duty.nTarget
      && (s.duty.running < s.duty.nTarget || (s.duty.ranking.drop s.duty.nTarget).any (runsInView x s))
  | none => false

/-- The tests of the start wish in order: the refusal cause of the first that fails, or none when every test passes (R119). -/
def startRefusal (x : Ctx) (s : State) : Option Cause :=
  if !(s.loader.phase = .operating && s.ladder.stage = .linked) then some .link
  else if !eligible s then some .notEligible
  else if !(startsInLastHour s < x.cfg.startLimit) then some .startLimit
  else if s.pump.minStopTimer.isSome then some .minStop
  else if s.conds.suctionLow then some .suction
  else if !startNeeded x s then some .none
  else if peerStarting x s then some .stagger
  else none

/-- The stop wish holds (R120). -/
def stopWished (x : Ctx) (s : State) : Bool :=
  (s.loader.phase = .operating && s.ladder.stage = .linked) && s.pump.minRunTimer.isNone
    && s.duty.nTarget < s.duty.stopCount && (s.duty.ranking.filter (runsInView x s)).getLast? = some x.bay

/-- Steps 5 and 6: at most one hand-over to the pump controller (R119 to R121, R141). -/
def handWish (x : Ctx) (s : State) : State :=
  match s.pump.state with
  | .stopped => match startRefusal x s with
    | some cause => { s with pump := { s.pump with cause := cause } }
    | none => takeStartWish x s
  | .running => if stopWished x s then takeStopWish x s else s
  | .startPending | .starting | .stopping | .tripped | .failed | .locked => s

/-- One duty evaluation (R113). -/
def dutyStep (x : Ctx) (s : State) : State := handWish x { s with duty := evaluate x s }

/-- DUTY_TIMER_EXPIRY (R113). -/
def execDutyTimerExpiry (s : State) : Host.Outcome State Fault Refusal :=
  .next <| whenLive s fun x s => onExpiry s.duty.timer s fun t s =>
    dutyStep x { s with duty := { s.duty with timer := rearmed t (x.cfg.dutyInterval * 1000) } }

end Sys2Proof.Machine
end

