-- ==== Sys2Proof/Machine/Fouling.lean ====
section
/-! DEFINITION. Sys2Proof/Machine/Fouling.lean: the fouling monitor and the swarm watch of chapter 4, and the meanings of the
settle and trend timers. -/

namespace Sys2Proof.Machine

/-! ### The fouling update -/

/-- The reference head of a running mark (R58). -/
def referenceHead (c : Settings) (running : Bool) : Nat := if running then c.headRunning else c.headStopped

/-- F of a head loss D against a reference head and a blocked head (R57). -/
def foulingOfHead (d : Int) (reference blocked : Nat) : Nat :=
  if d ≤ reference then 0
  else if (blocked : Int) ≤ d - reference then 100
  else (100 * (d - reference) / blocked).toNat

/-- The outer level of the head loss: the consensus in place of the own level while SUSPECT is set (R61). -/
def headLossOuter (s : State) : Int := if s.tide.suspect then s.tide.level else s.front.outer.level

/-- F and the STALE mark after a pair (R56). -/
def foulingAfterPair (c : Settings) (s : State) : Nat × Bool :=
  if s.front.outer.state ≠ .good || s.front.inner.state ≠ .good then (s.fouling.index, true)
  else if s.tide.suspect && !s.tide.valid then (s.fouling.index, true)
  else if s.fouling.settleTimer.isSome then (s.fouling.index, s.fouling.stale)
  else (foulingOfHead (headLossOuter s - s.front.inner.level) (referenceHead c s.fouling.runningMark) c.headBlocked, false)

/-- SCREEN BLOCKED after an update (R62). -/
def blockedAfter (c : Settings) (blocked : Bool) (index : Nat) (stale : Bool) : Bool :=
  if blocked then c.washThreshold < index else index = 100 && !stale

/-- A change of SCREEN BLOCKED handed to the annunciator and the pump controller (R63, R136). -/
def blockedChanged (x : Ctx) (v : Bool) (s : State) : State :=
  let t := setCond x .screenBlocked v s
  if v then protectiveStop x .notEligible t else t

/-- A pair at the fouling monitor: the update, SCREEN BLOCKED, and the hand-overs of R63. -/
def foulingUpdate (x : Ctx) (s : State) : State :=
  let r := foulingAfterPair x.cfg s
  let t := { s with fouling := { s.fouling with index := r.1, stale := r.2 } }
  let v := blockedAfter x.cfg s.conds.screenBlocked r.1 r.2
  if v = s.conds.screenBlocked then triggerCheck x .foulingUpdate t
  else eitherOrder (triggerCheck x .foulingUpdate) (blockedChanged x v) t

/-! ### The swarm watch -/

/-- What the watch reads of a bay at an expiry (R64 to R66). -/
structure LaneNow where
  index   : Nat
  stale   : Bool
  present : Bool
deriving DecidableEq, Repr

/-- The present values of a lane: the own F and STALE mark, or the peer entry's report and whether it is PRESENT (R64). -/
def laneNow (x : Ctx) (s : State) (b : Bay) : LaneNow :=
  if b = x.bay then ⟨s.fouling.index, s.fouling.stale, true⟩
  else ⟨s.peers[b].report.fouling, s.peers[b].report.foulingStale, s.peers[b].presence = .present⟩

/-- The lane counts at this expiry (R66). -/
def laneCounts (l : Lane) (n : LaneNow) : Bool :=
  l.present && n.present && !l.invalidated && !l.stale && !n.stale

/-- The deltas of the counted lanes (R67). -/
def laneDeltas (x : Ctx) (s : State) : List Nat :=
  (List.finRange 12).filterMap fun b =>
    let l := s.fouling.lanes[b]
    let n := laneNow x s b
    if laneCounts l n then some (n.index - l.index) else none

/-- The rising count (R67). -/
def risingCount (c : Settings) (deltas : List Nat) : Nat := deltas.countP fun d => c.swarmStep ≤ d

/-- The snapshot retaken for every lane (R69). -/
def retakenLanes (x : Ctx) (s : State) : Vector Lane 12 :=
  Vector.ofFn fun b =>
    let n := laneNow x s b
    ⟨n.index, n.stale, n.present, false⟩

/-- A change of SWARM handed on (R70): the drive, on the rise a pre-emptive claim, and a STATUS. -/
def swarmChanged (x : Ctx) (s : State) : State :=
  let t := selectDrive x s
  offerStatus x (if s.fouling.swarm then triggerCheck x .swarmRise t else t)

/-- One trend expiry (R65). -/
def trendStep (x : Ctx) (s : State) : State :=
  let deltas := laneDeltas x s
  let swarm : Bool := x.cfg.swarmCount ≤ risingCount x.cfg deltas
  let t := { s with fouling := { s.fouling with
    intensity := deltas.sum, swarm := swarm, lanes := retakenLanes x s } }
  if swarm = s.fouling.swarm then t else swarmChanged x t

/-- A bay's lane marked invalidated (R64). -/
def invalidateLane (b : Bay) (s : State) : State :=
  { s with fouling := { s.fouling with
      lanes := s.fouling.lanes.set b { s.fouling.lanes[b] with invalidated := true } } }

/-! ### Meanings -/

/-- SETTLE_TIMER_EXPIRY (R59): the timer stops. -/
def execSettleTimerExpiry (s : State) : Host.Outcome State Fault Refusal :=
  .next <| whenLive s fun _ s => onExpiry s.fouling.settleTimer s fun _ s =>
    { s with fouling := { s.fouling with settleTimer := none } }

/-- TREND_TIMER_EXPIRY (R65). -/
def execTrendTimerExpiry (s : State) : Host.Outcome State Fault Refusal :=
  .next <| whenLive s fun x s => onExpiry s.fouling.trendTimer s fun t s =>
    trendStep x { s with fouling := { s.fouling with trendTimer := rearmed t (x.cfg.trendInterval * 60000) } }

end Sys2Proof.Machine
end

