-- ==== Sys2Proof/Machine/FrontEnd.lean ====
section
/-! DEFINITION. Sys2Proof/Machine/FrontEnd.lean: the level front end of chapter 1, the judgement of SUCTION LOW on its pairs (R135),
and the meaning of SAMPLE_TIMER_EXPIRY. -/

namespace Sys2Proof.Machine

/-- The class of a code (R3). -/
inductive CodeClass where
  | under | inRange | over
deriving DecidableEq, Repr

/-- R3. -/
def classOfCode (c : Nat) : CodeClass :=
  if c < 760 then .under else if c ≤ 4040 then .inRange else .over

/-- The clamp of an in-range code (R4). -/
def clampCode (c : Nat) : Nat := max 800 (min c 4000)

/-- The conversion of a clamped code (R5). -/
def convertCode (l : LoopSettings) (c : Nat) : Int := l.zero + (((c - 800) * l.span / 3200 : Nat) : Int)

/-- The level of a loop's in-range code (R4, R5). -/
def levelOfCode (l : LoopSettings) (c : Nat) : Int := convertCode l (clampCode c)

/-- A filter update with a converted level (R11); floors are toward minus infinity. -/
def filterUpdate (k : Nat) (level : Int) (r : LoopRecord) : LoopRecord :=
  let acc := r.acc + level - r.acc / 2 ^ k
  { r with acc := acc, level := acc / 2 ^ k }

/-- An initialisation of the filter with a converted level (R12). -/
def filterInit (k : Nat) (level : Int) (r : LoopRecord) : LoopRecord :=
  { r with acc := level * 2 ^ k, level := level }

/-- An out-of-range sample of a kind (R7). -/
def sampleOutOfRange (kind : Sensor) (r : LoopRecord) : LoopRecord :=
  let run := min (r.faultRun + 1) 3
  if run = 3 then { r with goodRun := 0, faultRun := run, state := kind, startMark := false }
  else { r with goodRun := 0, faultRun := run }

/-- An in-range sample with its converted level (R8 to R10). -/
def sampleInRange (k : Nat) (level : Int) (r : LoopRecord) : LoopRecord :=
  if r.startMark then
    filterInit k level { r with startMark := false, faultRun := 0, goodRun := 1, state := .good }
  else if r.state = .good then
    filterUpdate k level { r with faultRun := 0, goodRun := min (r.goodRun + 1) 3 }
  else
    let run := min (r.goodRun + 1) 3
    if run = 3 then filterInit k level { r with faultRun := 0, goodRun := run, state := .good }
    else { r with faultRun := 0, goodRun := run }

/-- One sample of a loop (R3). -/
def sampleLoop (k : Nat) (l : LoopSettings) (c : Nat) (r : LoopRecord) : LoopRecord :=
  match classOfCode c with
  | .under => sampleOutOfRange .under r
  | .over => sampleOutOfRange .over r
  | .inRange => sampleInRange k (levelOfCode l c) r

/-- SUCTION LOW judged on a pair (R135). -/
def suctionAfterPair (c : Settings) (low : Bool) (r : LoopRecord) : Bool :=
  if r.state ≠ .good then low
  else if low then r.level < c.pumpRestartLevel
  else r.level < c.pumpStopLevel

/-- A change of SUCTION LOW at the pump controller (R135, R136). -/
def suctionChanged (x : Ctx) (v : Bool) (s : State) : State :=
  let t := setCond x .suctionLow v s
  if v then protectiveStop x .suction t else t

/-- The pair delivered to the fouling monitor and the pump controller (R13). -/
def deliverPair (x : Ctx) (s : State) : State :=
  let v := suctionAfterPair x.cfg s.conds.suctionLow s.front.inner
  if v = s.conds.suctionLow then foulingUpdate x s
  else eitherOrder (foulingUpdate x) (suctionChanged x v) s

/-- The two loop records after a sample of each (R2). -/
def sampledLoops (x : Ctx) (outer inner : Nat) (s : State) : State :=
  { s with front := { s.front with
      outer := sampleLoop x.cfg.filterShift x.cfg.outer outer s.front.outer,
      inner := sampleLoop x.cfg.filterShift x.cfg.inner inner s.front.inner } }

/-- One sample: the loops, the sensor conditions (R15, R42), the flags they bear on (R112, R131), and the pair. -/
def sampleStep (x : Ctx) (outer inner : Nat) (s : State) : State :=
  let t := sampledLoops x outer inner s
  let u := setCond x .innerSensor (t.front.inner.state ≠ .good) t
  let v := setCond x .outerSensor (u.front.outer.state ≠ .good || u.tide.suspect) u
  deliverPair x (checkPending x v)

/-- SAMPLE_TIMER_EXPIRY (R2). -/
def execSampleTimerExpiry (outer inner : BitVec 12) (s : State) : Host.Outcome State Fault Refusal :=
  .next <| whenLive s fun x s => onExpiry s.front.sampleTimer s fun t s =>
    sampleStep x outer.toNat inner.toNat { s with front := { s.front with sampleTimer := rearmed t 100 } }

end Sys2Proof.Machine
end

