-- ==== Sys2Proof/Machine/TideMonitor.lean ====
section
/-! DEFINITION. Sys2Proof/Machine/TideMonitor.lean: the tide monitor of chapter 3 and the meaning of its timer. -/

namespace Sys2Proof.Machine

/-! ### Medians and readings -/

/-- The median of a list of readings (R38): the middle reading, or the floor of the mean of the two middle ones; none of none. -/
def median (l : List Int) : Option Int :=
  let r := l.insertionSort (· ≤ ·)
  if l.length = 0 then none
  else if l.length % 2 = 1 then r[(l.length - 1) / 2]?
  else match r[l.length / 2 - 1]?, r[l.length / 2]? with
    | some a, some b => some ((a + b) / 2)
    | _, _ => none

/-- The foreign readings that count (R37). -/
def peerReadings (x : Ctx) (s : State) : List Int :=
  (List.finRange 12).filterMap fun b => match presentPeer x s b with
    | some r => if r.outerSensor = .good && !r.outerSuspect then some r.outerLevel else none
    | none => none

/-- All the readings that count, the own one among them (R37). -/
def readings (x : Ctx) (s : State) : List Int :=
  if s.front.outer.state = .good && !s.tide.suspect then s.front.outer.level :: peerReadings x s else peerReadings x s

/-! ### The steps of an evaluation (R35) -/

/-- The two levels differ by more than the tolerance (R40). -/
def disagrees (c : Settings) (own reference : Int) : Bool := c.suspectTolerance < (own - reference).natAbs

/-- A run that has reached its persistence where SUSPECT already is what the run would make it: R41 clears the runs at a change
only and R36 lets no run pass its persistence, so its value is free below that bound (DESIGN CHOICE, safe; log 15). -/
def idleRun (persistence : Nat) : Nat := min Config.idleRun persistence

/-- One comparison with the peer reference (R40, R41). -/
def judgedOwn (c : Settings) (reference : Int) (own : Int) (t : Tide) : Tide :=
  if disagrees c own reference then
    if t.disRun + 1 < c.suspectPersistence then { t with disRun := t.disRun + 1, agrRun := 0 }
    else if t.suspect then { t with disRun := idleRun c.suspectPersistence, agrRun := 0 }
    else { t with suspect := true, disRun := 0, agrRun := 0 }
  else
    if t.agrRun + 1 < c.suspectPersistence then { t with agrRun := t.agrRun + 1, disRun := 0 }
    else if t.suspect then { t with suspect := false, disRun := 0, agrRun := 0 }
    else { t with agrRun := idleRun c.suspectPersistence, disRun := 0 }

/-- Step 1: the suspect judgement, where the own sensor is GOOD and two peer readings count (R40). -/
def judgeSuspect (x : Ctx) (s : State) : State :=
  let ps := peerReadings x s
  if s.front.outer.state = .good && 2 ≤ ps.length then
    match median ps with
    | some m => { s with tide := judgedOwn x.cfg m s.front.outer.level s.tide }
    | none => s
  else s

/-- Step 2: the consensus (R38, R39). -/
def formConsensus (x : Ctx) (s : State) : State :=
  match median (readings x s) with
  | some c => { s with tide := { s.tide with level := c, valid := true, judged := true } }
  | none => { s with tide := { s.tide with valid := false, judged := true } }

/-- A condition with its runs after an evaluation at which its rise counts when `rises` and its fall when `falls` (R43, R44, R49). -/
def judgedCondition (persistence : Nat) (v : Bool) (r : Runs) (rises falls : Bool) : Bool × Runs :=
  if v then
    if falls then
      if persistence ≤ r.fall + 1 then (false, ⟨0, 0⟩) else (true, { r with fall := r.fall + 1 })
    else (true, { r with fall := 0 })
  else
    if rises then
      if persistence ≤ r.rise + 1 then (true, ⟨0, 0⟩) else (false, { r with rise := r.rise + 1 })
    else (false, { r with rise := 0 })

/-- A low-side condition with level y (R43). -/
def judgedLow (c : Settings) (y level : Int) (v : Bool) (r : Runs) : Bool × Runs :=
  judgedCondition c.tidePersistence v r (level < y) (y + c.tideHysteresis ≤ level)

/-- A high-side condition with level y (R44). -/
def judgedHigh (c : Settings) (y level : Int) (v : Bool) (r : Runs) : Bool × Runs :=
  judgedCondition c.tidePersistence v r (y < level) (level ≤ y - c.tideHysteresis)

/-- The ring after a valid consensus is written (R47). -/
def ringWritten (t : Tide) : Tide :=
  { t with ring := t.ring.set t.pointer t.level, pointer := t.pointer + 1, fill := min (t.fill + 1) 16 }

/-- The value written j evaluations before the newest (R47). -/
def ringBack (t : Tide) (j : Nat) : Int := t.ring[t.pointer - 1 - Fin.ofNat 16 j]

/-- The rise, measured when the fill count is greater than rate_window (R48). -/
def measuredRise (c : Settings) (t : Tide) : Option Int :=
  if c.rateWindow < t.fill then some (ringBack t 0 - ringBack t c.rateWindow) else none

/-- SURGE with its runs at an evaluation with a valid consensus (R48, R49). -/
def judgedSurge (c : Settings) (t : Tide) (v : Bool) : Bool × Runs :=
  match measuredRise c t with
  | some rise =>
    judgedCondition c.tidePersistence v t.surgeRun ((c.rateThreshold : Int) ≤ rise) (rise < ((c.rateThreshold / 2 : Nat) : Int))
  | none => (v, t.surgeRun)

/-- The conditions of the tide monitor judged at an evaluation, before they are handed on. -/
structure TideVerdict where
  lowLow       : Bool
  low          : Bool
  high         : Bool
  highHigh     : Bool
  surge        : Bool
  levelUnknown : Bool
deriving DecidableEq, Repr

/-- Steps 3 and 4 at a valid consensus (R43 to R49). -/
def judgeValid (c : Settings) (s : State) : TideVerdict × Tide :=
  let level := s.tide.level
  let lowLow := judgedLow c c.levelLL level s.conds.lowLow s.tide.lowLowRun
  let low := judgedLow c c.levelL level s.conds.low s.tide.lowRun
  let high := judgedHigh c c.levelH level s.conds.high s.tide.highRun
  let highHigh := judgedHigh c c.levelHH level s.conds.highHigh s.tide.highHighRun
  let t := ringWritten s.tide
  let surge := judgedSurge c t s.conds.surge
  (⟨lowLow.1, low.1, high.1, highHigh.1, surge.1, false⟩,
   { t with lowLowRun := lowLow.2, lowRun := low.2, highRun := high.2, highHighRun := highHigh.2, surgeRun := surge.2 })

/-- Steps 3 and 4 at an invalid consensus: the level conditions keep their values, every run breaks, the ring is emptied and SURGE
is false at once (R45, R47, R49). -/
def judgeInvalid (s : State) : TideVerdict × Tide :=
  (⟨s.conds.lowLow, s.conds.low, s.conds.high, s.conds.highHigh, false, true⟩,
   { s.tide with lowLowRun := ⟨0, 0⟩, lowRun := ⟨0, 0⟩, highRun := ⟨0, 0⟩, highHighRun := ⟨0, 0⟩, surgeRun := ⟨0, 0⟩,
                 fill := 0 })

/-- Steps 3 and 4 (R35). -/
def judgeTide (c : Settings) (s : State) : TideVerdict × Tide :=
  if s.tide.valid then judgeValid c s else judgeInvalid s

/-- Step 5, the changed conditions to the annunciator (R46). -/
def handTideConditions (x : Ctx) (v : TideVerdict) (s : State) : State :=
  let s1 := setCond x .lowLow v.lowLow s
  let s2 := setCond x .low v.low s1
  let s3 := setCond x .high v.high s2
  let s4 := setCond x .highHigh v.highHigh s3
  let s5 := setCond x .surge v.surge s4
  setCond x .levelUnknown v.levelUnknown s5

/-- OUTER SENSOR formed from the outer sensor state and SUSPECT, from the first sample expiry on (R42). It can be false before the
first sample only, when SUSPECT is clear too. -/
def formOuterSensor (x : Ctx) (s : State) : State :=
  setCond x .outerSensor (s.front.outer.state ≠ .good || s.tide.suspect) s

/-- One tide evaluation (R35). -/
def tideStep (x : Ctx) (s : State) : State :=
  let t := formConsensus x (judgeSuspect x s)
  let r := judgeTide x.cfg t
  let u := handTideConditions x r.1 { t with tide := r.2 }
  let w := if t.tide.suspect = s.tide.suspect then u else formOuterSensor x u
  let d := if w.conds.highHigh = s.conds.highHigh && w.conds.surge = s.conds.surge then w else selectDrive x w
  if t.tide.suspect = s.tide.suspect then d else offerStatus x d

/-- TIDE_TIMER_EXPIRY (R35). -/
def execTideTimerExpiry (s : State) : Host.Outcome State Fault Refusal :=
  .next <| whenLive s fun x s => onExpiry s.tide.timer s fun t s =>
    tideStep x { s with tide := { s.tide with timer := rearmed t (x.cfg.tideInterval * 1000) } }

end Sys2Proof.Machine
end

