-- ==== Sys2Proof/Machine/Peers.lean ====
section
/-! DEFINITION. Sys2Proof/Machine/Peers.lean: the peer table, the order record and the isolation ladder of chapter 2, OPERATING
entry (R169), and the meaning of AGEING_TIMER_EXPIRY. -/

namespace Sys2Proof.Machine

/-! ### The isolation ladder -/

/-- The claim list and the screen controller at a change to ISOLATED (R87, R98). A ROUTINE claim is aborted, and the controller may
take the stage before or after the list's new standing. -/
def isolateWash (x : Ctx) (s : State) : State :=
  if s.screen.cls = .routine then eitherOrder (stripForeign x) (abortWash x) s else stripForeign x s

/-- A stage formed by the ladder: a change is told to the link interface, and a change to ISOLATED to the claim list, the screen
controller and the pump controller; LINK ISOLATED follows the stage (R31, R34). -/
def setStage (x : Ctx) (st : Stage) (s : State) : State :=
  if s.ladder.stage = st then s
  else
    let t := offerStatus x { s with ladder := { s.ladder with stage := st } }
    let u := if st = .isolated then isolatedAtPump x (isolateWash x t) else t
    setCond x .linkIsolated (st = .isolated) u

/-- A valid frame from a bay other than the own returns the ladder to LINKED (R32). -/
def returnToLinked (x : Ctx) (s : State) : State :=
  setStage x .linked { s with ladder := { s.ladder with count := 0 } }

/-- The ladder at an ageing expiry (R31). -/
def ageLadder (x : Ctx) (s : State) : State :=
  let n := min (s.ladder.count + 1) 255
  setStage x (stageOfCount x.cfg n) { s with ladder := { s.ladder with count := n } }

/-! ### Ageing -/

/-- An entry becomes SILENT: its claim and its swarm lane are told (R20). -/
def fallSilent (x : Ctx) (b : Bay) (s : State) : State :=
  invalidateLane b (removeClaim x b
    { s with peers := s.peers.set b { s.peers[b] with presence := .silent } })

/-- One foreign entry at an ageing expiry (R20). -/
def ageEntry (x : Ctx) (s : State) (b : Bay) : State :=
  if b = x.bay || s.peers[b].presence = .empty then s
  else
    let n := min (s.peers[b].age + 1) 255
    let t := { s with peers := s.peers.set b { s.peers[b] with age := n } }
    if s.peers[b].presence = .present && n = x.cfg.silentLimit then fallSilent x b t else t

/-- The foreign entries at an ageing expiry (R20). -/
def ageEntries (x : Ctx) (s : State) : State := (List.finRange 12).foldl (ageEntry x) s

/-- The order record at an ageing expiry (R29). -/
def ageOrder (x : Ctx) (s : State) : State :=
  let n := min (s.order.age + 1) 255
  { s with order := { s.order with age := n, demandHeld := !s.order.heard || demandTimeoutPeriods x.cfg ≤ n } }

/-! ### The end of LISTENING -/

/-- The run hours reported by the PRESENT peers (R169). -/
def peerHours (x : Ctx) (s : State) : List Int :=
  (List.finRange 12).filterMap fun b => (presentPeer x s b).map fun r => (r.runHours : Int)

/-- Run-hour adoption (R169 step 1): 60 times the median of the peers' run hours, or 0; the mark is good and a write requested. -/
def adoptHours (x : Ctx) (s : State) : State :=
  let minutes := match median (peerHours x s) with
    | some h => 60 * h.toNat
    | none => 0
  requestWrite { s with pump := { s.pump with runMinutes := minutes }, loader := { s.loader with mark := .good } }

/-- OPERATING entry (R169 step 2, R97, R154): the interval timer starts, and DUTY RECORD LOST rises when the record was lost. -/
def enterOperating (x : Ctx) (s : State) : State :=
  let t := offerStatus x { s with loader := { s.loader with phase := .operating } }
  { t with screen := { t.screen with
      intervalTimer := if x.cfg.maxWashInterval = 0 then none else ahead t (x.cfg.maxWashInterval * 60000) } }

/-- The second ageing expiry of LISTENING (R169). -/
def endListening (x : Ctx) (s : State) : State :=
  if s.loader.mark = .lost then setCond x .dutyRecordLost true (enterOperating x (adoptHours x s))
  else enterOperating x s

/-- The LISTENING window at an ageing expiry (R169). -/
def countWindow (x : Ctx) (s : State) : State :=
  if s.loader.phase = .listening then
    let t := { s with loader := { s.loader with window := s.loader.window + 1 } }
    if 2 ≤ t.loader.window then endListening x t else t
  else s

/-- One ageing expiry (R19). -/
def ageingStep (x : Ctx) (s : State) : State := countWindow x (ageLadder x (ageOrder x (ageEntries x s)))

/-- AGEING_TIMER_EXPIRY (R19). -/
def execAgeingTimerExpiry (s : State) : Host.Outcome State Fault Refusal :=
  .next <| whenLive s fun x s => onExpiry s.ageingTimer s fun t s =>
    ageingStep x { s with ageingTimer := rearmed t (statusPeriodMs x.cfg) }

/-! ### Frames taken by the table -/

/-- RESTART in a stored STATUS: the bay's claim is removed and its swarm lane invalidated (R23). -/
def restartRemovals (x : Ctx) (b : Bay) (r : Report) (s : State) : State :=
  if r.restart then invalidateLane b (removeClaim x b s) else s

/-- A report stored in the entry of its bay (R21). -/
def storeReport (b : Bay) (r : Report) (s : State) : State :=
  { s with peers := s.peers.set b ⟨.present, 0, r⟩ }

/-- A STATUS from a foreign bay at the peer table (R21, R22): removals, storing, and the hand-overs to the claim list and, in
START_PENDING, to the pump controller, which need no order. -/
def takeStatus (x : Ctx) (b : Bay) (payload : List Byte) (s : State) : State :=
  match decodeReport payload with
  | some r =>
    let t := storeReport b r (restartRemovals x b r s)
    if t.pump.state = .startPending then eitherOrder (repairFromStatus x b r) (comparePeer x b r) t
    else repairFromStatus x b r t
  | none => s

/-- A CLAIM or RELEASE refreshes a PRESENT entry (R24). -/
def refreshEntry (b : Bay) (s : State) : State :=
  if s.peers[b].presence = .present then
    { s with peers := s.peers.set b { s.peers[b] with age := 0 } }
  else s

/-- A CLAIM from a foreign bay (R24, R74). -/
def takeClaim (x : Ctx) (b : Bay) (payload : List Byte) (s : State) : State :=
  let t := refreshEntry b s
  match decodeClaim payload with
  | some (tag, k, duration) => if t.peers[b].presence = .present then insertClaim x b tag k duration t else t
  | none => t

/-- A RELEASE from a foreign bay (R24, R77). -/
def takeRelease (x : Ctx) (b : Bay) (payload : List Byte) (s : State) : State :=
  removeReleased x b (byteAt payload 0) (refreshEntry b s)

/-- The fields of an ORDER taken into the record (R27). -/
def orderTaken (o : OrderFields) (s : State) : State :=
  { s with order := { s.order with
      heard := true, demand := min o.demand 12, rotation := o.rotation % 12, age := 0, demandHeld := false } }

/-- The masks of a new sequence number applied (R28); with both own flags set the two hand-overs go in either order. -/
def applyMasks (x : Ctx) (o : OrderFields) (s : State) : State :=
  match maskFlag o.ackMask x.bay, maskFlag o.washMask x.bay with
  | true, true => eitherOrder (acknowledge x) (triggerCheck x .manualWash) s
  | true, false => acknowledge x s
  | false, true => triggerCheck x .manualWash s
  | false, false => s

/-- An ORDER from the plant station (R27, R28). -/
def takeOrder (x : Ctx) (payload : List Byte) (s : State) : State :=
  let o := decodeOrder payload
  let t := orderTaken o s
  if t.order.lastApplied = some o.sequence then t
  else applyMasks x o { t with order := { t.order with lastApplied := some o.sequence } }

end Sys2Proof.Machine
end

