-- ==== Sys2Proof/Machine/LinkInterface.lean ====
section
/-! DEFINITION. Sys2Proof/Machine/LinkInterface.lean: the link interface of chapter 10: the contents of the frames it sends, its
transmitter, its receiver and the bay conflict, and the meanings of the link's commands and of the frames heard. -/

namespace Sys2Proof.Machine

/-! ### The frames a station sends -/

/-- The own report: the present values of the owning blocks (R157, R18). -/
def ownReport (x : Ctx) (s : State) : Report :=
  { restart := s.loader.phase = .listening, swarm := s.fouling.swarm, demandHeld := s.order.demandHeld,
    outerSuspect := s.tide.suspect, eligible := eligible s, startable := startable x.cfg s, runFeedback := s.lines.run,
    foulingStale := s.fouling.stale, stage := s.ladder.stage, outerSensor := s.front.outer.state,
    innerSensor := s.front.inner.state, pumpState := s.pump.state, cause := s.pump.cause, wash := s.screen.wash,
    cls := s.screen.cls, tag := s.screen.tag, fouling := s.fouling.index, outerLevel := s.front.outer.level,
    innerLevel := s.front.inner.level, runHours := runHours s, starts := startsInLastHour s, score := s.duty.score,
    screenPeriod := s.screen.period, swarmIntensity := s.fouling.intensity, alarms := s.alarms }

/-- A bay's entry as a reader of the peer table sees it: the own entry shows the present values (R18). -/
def entryReport (x : Ctx) (s : State) (b : Bay) : Report :=
  if b = x.bay then ownReport x s else s.peers[b].report

/-- The characters of a frame whose attempt begins now (R157, R161, 11.8). -/
def ownFrameBytes (x : Ctx) (s : State) : TxFrame → List Byte
  | .status => frameBytes kindStatus (byte (bayNumber x.bay)) (encodeReport (ownReport x s))
  | .claim tag k duration => frameBytes kindClaim (byte (bayNumber x.bay)) (encodeClaim tag k duration)
  | .release tag => frameBytes kindRelease (byte (bayNumber x.bay)) [byte tag]

/-! ### The transmitter -/

/-- The completion of a frame, told to its sender (R162, R76, R78, R97). -/
def tellCompletion (x : Ctx) (f : TxFrame) (s : State) : State :=
  match f with
  | .status => s
  | .claim tag k duration => insertClaim x x.bay tag k duration s
  | .release tag => washEnd x (removeReleased x x.bay tag s)

/-- The drop of a frame, told to its sender (R162, R78, R95, R97). -/
def tellDrop (x : Ctx) (f : TxFrame) (s : State) : State :=
  match f with
  | .status => s
  | .claim _ _ _ => claimDropped x s
  | .release tag => washEnd x (removeReleased x x.bay tag s)

/-- The frame leaves the hand, its sender is told, and the transmitter becomes IDLE and takes the next (R162). The access timer stops
as the frame leaves the hand, at a drop too, where R162 does not say so (DEDUCED, unsafe; log 17). -/
def finishFrame (x : Ctx) (tell : State → State) (s : State) : State :=
  let t := tell { s with link := { s.link with inHand := none, accessTimer := none } }
  takeNext x { t with link := { t.link with tx := .idle } }

/-- A failed attempt (R162): below eight the count rises and the state is DEFER; at eight the frame is dropped. -/
def failAttempt (x : Ctx) (s : State) : State :=
  match s.link.inHand with
  | some h =>
    if h.attempt < 8 then
      { s with link := { s.link with
          tx := .defer, inHand := some { h with attempt := h.attempt + 1 }, accessTimer := accessAhead x s } }
    else finishFrame x (tellDrop x h.frame) s
  | none => s

/-- The receiver after the read-back mismatch of a collision: it has heard what the transmitter read back (R155, R161). A frame of
which the last character came wrong is complete and fails its CRC. -/
def receiverAfterCollision (bytes : List Byte) (matched : Nat) : ReadBack → Receiver
  | .framingError => .waitIdle
  | .nothing => if matched = 0 then .armed else .collect
  | .value c =>
    if matched = 0 then .waitIdle
    else if matched = 3 && 23 < c.toNat then .waitIdle
    else if bytes.length ≤ matched + 1 then .waitIdle
    else .collect

/-! ### Bay conflict -/

/-- A STATUS bearing the own bay outside SEND (R163). -/
def bayConflictFound (x : Ctx) (s : State) : State :=
  if s.conds.bayConflict then s
  else
    let t := setCond x .bayConflict true s
    let u := { t with link := { t.link with
      tx := .mute, inHand := none, queue := [], accessTimer := none, statusTimer := none } }
    conflictAtPump x (conflictAtScreen x (removeClaim x x.bay u))

/-! ### The receiver -/

/-- A complete frame at the receiver: from ARMED (SYNC and the frame follow) or from COLLECT it is complete and the receiver is in
WAIT IDLE; a valid one of the row's KIND is handed on in LISTENING and OPERATING, unless it is the own frame, heard in SEND (R155,
R156; log 8). In WAIT IDLE no frame is found. -/
def hearFrame (kind : Byte) (f : Frame) (s : State) (act : Ctx → State → State) : State :=
  if s.inReset || s.link.receiver = .waitIdle then s
  else
    let t := { s with link := { s.link with receiver := .waitIdle } }
    if frameValid f && f.kind = kind && t.link.tx ≠ .send then whenLive t act else t

/-- A frame of a foreign station: the ladder returns to LINKED and the contents are taken (R32); a frame that bears the own bay is
treated apart (R156). -/
def fromBay (x : Ctx) (f : Frame) (own : State → State) (foreign : Bay → State → State) (s : State) : State :=
  match bayOfByte f.bay with
  | some b => if b = x.bay then own s else foreign b (returnToLinked x s)
  | none => s

/-! ### Meanings -/

/-- STATUS_TIMER_EXPIRY (R160). -/
def execStatusTimerExpiry (s : State) : Host.Outcome State Fault Refusal :=
  .next <| whenLive s fun x s => onExpiry s.link.statusTimer s fun t s =>
    offerStatus x { s with link := { s.link with statusTimer := rearmed t (statusPeriodMs x.cfg) } }

/-- ATTEMPT_BEGIN (R161): in DEFER, the contents are taken, the CRC formed, and SEND begins. The line has been idle for the access
gap, so the receiver is ARMED (R155). -/
def execAttemptBegin (s : State) : Host.Outcome State Fault Refusal :=
  .next <| whenLive s fun x s =>
    match s.link.tx, s.link.inHand with
    | .defer, some h =>
      { s with link := { s.link with
          tx := .send, accessTimer := none, receiver := .armed,
          inHand := some { h with bytes := ownFrameBytes x s h.frame } } }
    | _, _ => s

/-- TRANSMIT_COMPLETION (R162). The receiver has completed the same frame, which it hands to no block (R156). -/
def execTransmitCompletion (s : State) : Host.Outcome State Fault Refusal :=
  .next <| whenLive s fun x s =>
    match s.link.tx, s.link.inHand with
    | .send, some h =>
      finishFrame x (tellCompletion x h.frame) { s with link := { s.link with receiver := .waitIdle } }
    | _, _ => s

/-- COLLISION (R162). -/
def execCollision (matched : Nat) (got : ReadBack) (s : State) : Host.Outcome State Fault Refusal :=
  .next <| whenLive s fun x s =>
    match s.link.tx, s.link.inHand with
    | .send, some h =>
      { s with link := { s.link with
          tx := .backoff, accessTimer := accessAhead x s, receiver := receiverAfterCollision h.bytes matched got } }
    | _, _ => s

/-- BACKOFF_END (R162). -/
def execBackoffEnd (s : State) : Host.Outcome State Fault Refusal :=
  .next <| whenLive s fun x s => if s.link.tx = .backoff then failAttempt x s else s

/-- ACCESS_TIMER_EXPIRY (R162). -/
def execAccessTimerExpiry (s : State) : Host.Outcome State Fault Refusal :=
  .next <| whenLive s fun x s =>
    if s.link.tx = .defer || s.link.tx = .backoff then
      onExpiry s.link.accessTimer s fun _ s => failAttempt x s
    else s

/-- RECEIVER_ARMED (R155). -/
def execReceiverArmed (s : State) : Host.Outcome State Fault Refusal :=
  .next <|
    if !s.inReset && s.link.receiver = .waitIdle then { s with link := { s.link with receiver := .armed } } else s

/-- FRAME_ABANDONED (R155): from COLLECT, or from ARMED when the command brings the SYNC and what followed it. -/
def execFrameAbandoned (s : State) : Host.Outcome State Fault Refusal :=
  .next { s with link := { s.link with receiver := .waitIdle } }

/-- NON_SYNC_CHARACTER (R155). -/
def execNonSyncCharacter (s : State) : Host.Outcome State Fault Refusal :=
  .next <|
    if s.link.receiver = .armed then { s with link := { s.link with receiver := .waitIdle } } else s

/-- INVALID_FRAME (R156): discarded, with no effect beyond the receiver's. -/
def execInvalidFrame (_f : Frame) (s : State) : Host.Outcome State Fault Refusal :=
  .next { s with link := { s.link with receiver := .waitIdle } }

/-- STATUS_FRAME (R21, R163). -/
def execStatusFrame (f : Frame) (s : State) : Host.Outcome State Fault Refusal :=
  .next <| hearFrame kindStatus f s fun x s =>
    fromBay x f (bayConflictFound x) (fun b s => takeStatus x b f.payload s) s

/-- CLAIM_FRAME (R74). -/
def execClaimFrame (f : Frame) (s : State) : Host.Outcome State Fault Refusal :=
  .next <| hearFrame kindClaim f s fun x s => fromBay x f id (fun b s => takeClaim x b f.payload s) s

/-- RELEASE_FRAME (R77). -/
def execReleaseFrame (f : Frame) (s : State) : Host.Outcome State Fault Refusal :=
  .next <| hearFrame kindRelease f s fun x s => fromBay x f id (fun b s => takeRelease x b f.payload s) s

/-- ORDER_FRAME (R27). -/
def execOrderFrame (f : Frame) (s : State) : Host.Outcome State Fault Refusal :=
  .next <| hearFrame kindOrder f s fun x s => takeOrder x f.payload (returnToLinked x s)

end Sys2Proof.Machine
end

