-- ==== Sys2Proof/Machine/Dispatch.lean ====
section
/-! DEFINITION. Sys2Proof/Machine/Dispatch.lean: each command's meaning, in the order of spec/opcode_table.json. -/

namespace Sys2Proof.Machine

def exec (i : Instr) (s : State) : Host.Outcome State Fault Refusal :=
  match i with
  | .reset => Sys2Proof.Machine.execReset s
  | .resetEnd straps => Sys2Proof.Machine.execResetEnd straps s
  | .configImageReadDone image => Sys2Proof.Machine.execConfigImageReadDone image s
  | .dutyRecordReadDone record => Sys2Proof.Machine.execDutyRecordReadDone record s
  | .sampleTimerExpiry outer inner => Sys2Proof.Machine.execSampleTimerExpiry outer inner s
  | .settleTimerExpiry => Sys2Proof.Machine.execSettleTimerExpiry s
  | .ageingTimerExpiry => Sys2Proof.Machine.execAgeingTimerExpiry s
  | .tideTimerExpiry => Sys2Proof.Machine.execTideTimerExpiry s
  | .trendTimerExpiry => Sys2Proof.Machine.execTrendTimerExpiry s
  | .rangeTimerExpiry => Sys2Proof.Machine.execRangeTimerExpiry s
  | .gapTimerExpiry => Sys2Proof.Machine.execGapTimerExpiry s
  | .intervalTimerExpiry => Sys2Proof.Machine.execIntervalTimerExpiry s
  | .cycleTimerExpiry => Sys2Proof.Machine.execCycleTimerExpiry s
  | .shaftEdge => Sys2Proof.Machine.execShaftEdge s
  | .stallTimerExpiry => Sys2Proof.Machine.execStallTimerExpiry s
  | .headerOpens => Sys2Proof.Machine.execHeaderOpens s
  | .headerCloses => Sys2Proof.Machine.execHeaderCloses s
  | .headerTimerExpiry => Sys2Proof.Machine.execHeaderTimerExpiry s
  | .retryTimerExpiry => Sys2Proof.Machine.execRetryTimerExpiry s
  | .dutyTimerExpiry => Sys2Proof.Machine.execDutyTimerExpiry s
  | .guardTimerExpiry => Sys2Proof.Machine.execGuardTimerExpiry s
  | .startTimeout => Sys2Proof.Machine.execStartTimeout s
  | .stopTimeout => Sys2Proof.Machine.execStopTimeout s
  | .pulseTimerExpiry => Sys2Proof.Machine.execPulseTimerExpiry s
  | .minRunExpiry => Sys2Proof.Machine.execMinRunExpiry s
  | .minStopExpiry => Sys2Proof.Machine.execMinStopExpiry s
  | .startRingAgeExpiry => Sys2Proof.Machine.execStartRingAgeExpiry s
  | .minuteTimerExpiry => Sys2Proof.Machine.execMinuteTimerExpiry s
  | .runCloses => Sys2Proof.Machine.execRunCloses s
  | .runOpens => Sys2Proof.Machine.execRunOpens s
  | .tripCloses => Sys2Proof.Machine.execTripCloses s
  | .tripOpens => Sys2Proof.Machine.execTripOpens s
  | .localCloses => Sys2Proof.Machine.execLocalCloses s
  | .localOpens => Sys2Proof.Machine.execLocalOpens s
  | .ackRisingEdge => Sys2Proof.Machine.execAckRisingEdge s
  | .statusTimerExpiry => Sys2Proof.Machine.execStatusTimerExpiry s
  | .attemptBegin => Sys2Proof.Machine.execAttemptBegin s
  | .transmitCompletion => Sys2Proof.Machine.execTransmitCompletion s
  | .collision matched got => Sys2Proof.Machine.execCollision matched got s
  | .backoffEnd => Sys2Proof.Machine.execBackoffEnd s
  | .accessTimerExpiry => Sys2Proof.Machine.execAccessTimerExpiry s
  | .receiverArmed => Sys2Proof.Machine.execReceiverArmed s
  | .frameAbandoned => Sys2Proof.Machine.execFrameAbandoned s
  | .invalidFrame f => Sys2Proof.Machine.execInvalidFrame f s
  | .statusFrame f => Sys2Proof.Machine.execStatusFrame f s
  | .claimFrame f => Sys2Proof.Machine.execClaimFrame f s
  | .releaseFrame f => Sys2Proof.Machine.execReleaseFrame f s
  | .orderFrame f => Sys2Proof.Machine.execOrderFrame f s
  | .writeEnableDone => Sys2Proof.Machine.execWriteEnableDone s
  | .pageWriteDone => Sys2Proof.Machine.execPageWriteDone s
  | .pollTimerExpiry => Sys2Proof.Machine.execPollTimerExpiry s
  | .readStatusDone status => Sys2Proof.Machine.execReadStatusDone status s
  | .ackFallingEdge => Sys2Proof.Machine.execAckFallingEdge s
  | .nonSyncCharacter => Sys2Proof.Machine.execNonSyncCharacter s

end Sys2Proof.Machine
end

