-- ==== Sys2Proof/Safety.lean ====
section
/-! DEFINITION. Sys2Proof/Safety.lean: what holds of a safe station in every state it can come to, in the terms the statements use:
one predicate per law of the spec. Each is meant to be kept by every step. -/

namespace Sys2Proof.Machine

/-- The station is before LISTENING entry or halted: its blocks stand at their reset values (R164, R165, R170). -/
def atRest (s : State) : Prop := s.loader.phase = .loading ∨ s.loader.phase = .halted

/-- R164: while a reset holds, the phase is LOADING. -/
def ResetLoads (s : State) : Prop := s.inReset = true → s.loader.phase = .loading

/-- The laws of the drive and the spray: the drive is the one R103 chooses, FAST only in WASHING (R104), SPRAY and the cycle timer run
only in WASHING (R100, R102), the stall window runs exactly while the drive is on (R106), the header timer only with SPRAY on (R108), a
bay conflict leaves IDLE (R99), and at rest the wash state is IDLE (R91). -/
structure ScreenLaw (s : State) : Prop where
  loads       : ResetLoads s
  drive       : s.screen.drive = driveChoice s
  spray       : s.screen.spray = true → s.screen.wash = .washing
  cycleTimer  : s.screen.cycleTimer.isSome = true → s.screen.wash = .washing
  stallTimer  : s.screen.stallTimer.isSome = true ↔ s.screen.drive ≠ .off
  headerTimer : s.screen.headerTimer.isSome = true → s.screen.spray = true
  conflict    : s.conds.bayConflict = true → s.screen.wash = .idle
  rest        : atRest s → s.screen.wash = .idle

/-- The laws of the pump state: no pulse in LOCKED or TRIPPED, and a pulse exactly while its timer runs (R128); PUMP TRIP and PUMP FAIL
follow the state (R137, R139); the guard runs exactly in START_PENDING (R130, R131), the feedback timer exactly in STARTING and STOPPING
(R132, R134), min_run only in RUNNING (R133); at rest the state is STOPPED with no pulse (R125). -/
structure PumpLaw (s : State) : Prop where
  loads    : ResetLoads s
  cut      : s.pump.state = .locked ∨ s.pump.state = .tripped → s.pump.pulse = none
  pulse    : s.pump.pulse.isSome = s.pump.pulseTimer.isSome
  trip     : s.conds.pumpTrip = true ↔ s.pump.state = .tripped
  fail     : s.conds.pumpFail = true ↔ s.pump.state = .failed
  guard    : s.pump.guardTimer.isSome = true ↔ s.pump.state = .startPending
  feedback : s.pump.feedbackTimer.isSome = true ↔ s.pump.state = .starting ∨ s.pump.state = .stopping
  minRun   : s.pump.minRunTimer.isSome = true → s.pump.state = .running
  rest     : atRest s → s.pump.state = .stopped ∧ s.pump.pulse = none

/-- The law of counted running: at work, the minute timer runs and the running mark is set exactly while the own bay is counted running
(R55, R59, R143), and the accumulator holds less than a minute; at rest the minute timer is stopped. -/
structure CountedLaw (s : State) : Prop where
  loads  : ResetLoads s
  minute : (ctx? s).isSome = true → s.pump.minuteTimer.isSome = countedRunning s
  mark   : (ctx? s).isSome = true → s.fouling.runningMark = countedRunning s
  acc    : s.pump.minuteAcc < 60000
  rest   : atRest s → s.pump.minuteTimer = none

/-- R140: the starts in the last hour never exceed start_limit, and a pending start leaves room for one more; at rest the ring is empty
and the state STOPPED. -/
structure StartLaw (s : State) : Prop where
  loads   : ResetLoads s
  limit   : ∀ x, ctx? s = some x → startsInLastHour s ≤ x.cfg.startLimit
  pending : ∀ x, ctx? s = some x → s.pump.state = .startPending → startsInLastHour s < x.cfg.startLimit
  rest    : atRest s → startsInLastHour s = 0 ∧ s.pump.state = .stopped

/-- R145, R149: at work, the entry of an enabled alarm is UNACK or ACKED exactly while its condition is true, and the entry of a
disabled alarm is NORMAL; at rest every entry is NORMAL and every condition false. -/
structure AlarmLaw (s : State) : Prop where
  loads    : ResetLoads s
  enabled  : ∀ x a, ctx? s = some x → alarmEnabled x.cfg a.index.val = true →
               (alarmState s a = .unack ∨ alarmState s a = .acked ↔ s.conds.get a = true)
  disabled : ∀ x a, ctx? s = some x → alarmEnabled x.cfg a.index.val = false → alarmState s a = .normal
  rest     : atRest s → s.conds = Conds.reset ∧ s.alarms = Vector.replicate 17 .normal

/-- R34: LINK ISOLATED is true exactly in the stage ISOLATED; at work the stage is the one the count gives (R31, R32), and at rest the
ladder is at reset. The image accepted is within R167. -/
structure LadderLaw (s : State) : Prop where
  loads    : ResetLoads s
  isolated : s.conds.linkIsolated = true ↔ s.ladder.stage = .isolated
  stage    : ∀ x, ctx? s = some x → s.ladder.stage = stageOfCount x.cfg s.ladder.count
  image    : ∀ c, s.loader.cfg = some c → settingsAllowed c = true
  rest     : atRest s → s.ladder = ⟨0, .linked⟩

/-- The entries of a list stand URGENT before ROUTINE (R72). -/
def urgentFirst (l : List Claim) : Prop := l.Pairwise fun a b => a.cls = .routine → b.cls = .routine

/-- R71, R72, R85: one entry per bay, URGENT before ROUTINE, a foreign entry only of a PRESENT bay, and an in-range time of 0 for the
own entry and for every entry beyond the grant range; at rest the list is empty. -/
structure ClaimLaw (s : State) : Prop where
  loads   : ResetLoads s
  single  : (s.claims.entries.map Claim.bay).Nodup
  ordered : urgentFirst s.claims.entries
  present : ∀ x, ctx? s = some x → ∀ e ∈ s.claims.entries, e.bay ≠ x.bay → s.peers[e.bay].presence = .present
  timed   : ∀ x, ctx? s = some x → s.claims.entries = regraded x s.claims.entries
  rest    : atRest s → s.claims.entries = []

/-- R154, R158, R161, R163: at most one STATUS waits; a frame is in hand exactly in DEFER, SEND and BACKOFF, with an attempt count 1 to
8; the access timer runs exactly in DEFER and BACKOFF (log 17); an IDLE or MUTE transmitter has an empty queue (log 9); at work it is
MUTE exactly in a bay conflict, and at rest it is MUTE. -/
structure LinkLaw (s : State) : Prop where
  loads    : ResetLoads s
  status   : s.link.queue.count .status ≤ 1
  inHand   : s.link.inHand.isSome = true ↔ s.link.tx = .defer ∨ s.link.tx = .send ∨ s.link.tx = .backoff
  attempt  : ∀ h, s.link.inHand = some h → 1 ≤ h.attempt ∧ h.attempt ≤ 8
  access   : s.link.accessTimer.isSome = true ↔ s.link.tx = .defer ∨ s.link.tx = .backoff
  empty    : s.link.tx = .idle ∨ s.link.tx = .mute → s.link.queue = []
  conflict : s.conds.bayConflict = true → s.link.tx = .mute
  mute     : (ctx? s).isSome = true → s.link.tx = .mute → s.conds.bayConflict = true
  rest     : atRest s → s.link.tx = .mute ∧ s.conds.bayConflict = false

/-- The frames of the wash that wait or are in hand, STATUS left out. -/
def washFrames (s : State) : List TxFrame :=
  (match s.link.inHand with
   | some h => [h.frame]
   | none => []).filter (· ≠ TxFrame.status) ++ s.link.queue.filter (· ≠ TxFrame.status)

/-- The own claims listed. -/
def ownClaims (x : Ctx) (s : State) : List Claim := s.claims.entries.filter fun e => e.bay = x.bay

/-- What a wash state goes with (the table of 6.3, R95 to R99, R158): the own standing in the list, and the CLAIM and RELEASE that wait
or are in hand. -/
def washAgrees (x : Ctx) (s : State) : Prop :=
  match s.screen.wash with
  | .idle => standingIn x s.claims.entries = .none ∧ washFrames s = []
  | .claiming => standingIn x s.claims.entries = .none ∧ ∃ k d, washFrames s = [.claim s.screen.tag k d]
  | .waiting => standingIn x s.claims.entries = .beyondRange ∧ washFrames s = []
  | .washing => standingIn x s.claims.entries = .inRange ∧ washFrames s = []
  | .yielded => standingIn x s.claims.entries = .beyondRange ∧ washFrames s = []
  | .releasing => washFrames s = [.release s.screen.tag]
      ∨ ∃ k d, standingIn x s.claims.entries = .none ∧ washFrames s = [.claim s.screen.tag k d, .release s.screen.tag]

/-- The law of the shared header: a station washes only while its own claim stands in the grant range of its own list, under its own
tag, and the frames it still has to send agree with its wash state (6.3, R73, R95 to R98, R158); a MUTE station is in IDLE. -/
structure WashLaw (s : State) : Prop where
  loads  : ResetLoads s
  agrees : ∀ x, ctx? s = some x → washAgrees x s
  mute   : s.link.tx = .mute → s.screen.wash = .idle
  tag    : ∀ x, ctx? s = some x → ∀ e ∈ ownClaims x s, e.tag = s.screen.tag
  rest   : atRest s → s.screen.wash = .idle ∧ s.claims.entries = [] ∧ washFrames s = []

/-! ### Words of the statements -/

/-- A frame has been handed to the link interface: it waits in the queue or is in hand. -/
def handedOver (f : TxFrame) (s : State) : Prop := f ∈ s.link.queue ∨ ∃ h, s.link.inHand = some h ∧ h.frame = f

/-- The tables of R43, R44 and R49 for one condition: its value and runs before (`v`, `r`) and after (`w`, `q`) an evaluation, with np
the persistence, at which its rise counts when `rises` and its fall when `falls`. -/
def followsTable (np : Nat) (rises falls : Prop) (v : Bool) (r : Runs) (w : Bool) (q : Runs) : Prop :=
  (v = false → rises → r.rise + 1 < np → w = false ∧ q = { r with rise := r.rise + 1 }) ∧
  (v = false → rises → np ≤ r.rise + 1 → w = true ∧ q = ⟨0, 0⟩) ∧
  (v = false → ¬rises → w = false ∧ q = { r with rise := 0 }) ∧
  (v = true → falls → r.fall + 1 < np → w = true ∧ q = { r with fall := r.fall + 1 }) ∧
  (v = true → falls → np ≤ r.fall + 1 → w = false ∧ q = ⟨0, 0⟩) ∧
  (v = true → ¬falls → w = true ∧ q = { r with fall := 0 })

/-- The outputs in HALTED: every one off but ALARM, and SPI_CS high (R151, R170). -/
def haltedOutputs : Outputs :=
  { start := false, stop := false, screenSlow := false, screenFast := false, spray := false, alarm := true, linkDe := false,
    spiCsHigh := true }

/-- What a choice of the drive does to the shaft capture and the stall window (R104 to R106), `s` before it and `t` after: a turn-on clears
the prescale count, the last capture and the screen period and starts the window of the new speed, a change of speed restarts the window
alone, a turn-off stops it, and no change leaves all four. -/
def driveMoves (x : Ctx) (s t : State) : Prop :=
  let window : Timer := some (s.clock + ms ((if t.screen.drive = .fast then x.cfg.stallFast else x.cfg.stallSlow) * 100))
  (t.screen.drive = s.screen.drive → t.screen.stallTimer = s.screen.stallTimer) ∧
  (t.screen.drive ≠ s.screen.drive → t.screen.stallTimer = if t.screen.drive = .off then none else window) ∧
  (if s.screen.drive = .off ∧ t.screen.drive ≠ .off then
     t.screen.prescale = 0 ∧ t.screen.lastCapture = none ∧ t.screen.period = 0
   else t.screen.prescale = s.screen.prescale ∧ t.screen.lastCapture = s.screen.lastCapture ∧ t.screen.period = s.screen.period)

/-- What an end of counted running does to the run time (R143), `s` before it and `t` after: the part of the minute that has elapsed is
kept in the accumulator, and a whole one is a minute more and leaves none. -/
def minutesKept (s t : State) : Prop :=
  ∀ m, s.pump.minuteTimer = some m →
    let left := (m - s.clock).toInt
    (0 < left → left ≤ 60000 → t.pump.runMinutes = s.pump.runMinutes ∧ (t.pump.minuteAcc : Int) = 60000 - left) ∧
    (left ≤ 0 → t.pump.runMinutes = min (s.pump.runMinutes + 1) (max s.pump.runMinutes 16777215) ∧ t.pump.minuteAcc = 0)

/-- How the loader takes a request to write the duty record (R170), `s` before it and `t` after: it is held pending while a write runs, and
in LISTENING with a lost record, in which no write begins; else WRITE ENABLE begins at once, and only a second request of the same event
(`again`) is then pending. -/
def writeRequested (again : Bool) (s t : State) : Prop :=
  let held : Prop := s.loader.write ≠ .idle ∨ (s.loader.phase = .listening ∧ s.loader.mark = .lost)
  (held → t.loader = { s.loader with writePending := true }) ∧
  (¬held → t.loader = { s.loader with write := .enable, spi := some .writeEnable, writePending := again })

/-- The requests of an end of counted running: its own, and a second one where it makes a whole hour full (R144). -/
def endRequested (s t : State) : Prop :=
  writeRequested (decide (t.pump.runMinutes ≠ s.pump.runMinutes ∧ t.pump.runMinutes % 60 = 0)) s t

/-- What a change to WASHING by a new own standing comes to (R95, R96, R101), `s` before it and `t` after: with cycles still to run the
set in force is in the working copy and a fresh cycle runs; with none the wash is complete at once, by a RELEASE. The completed cycles
are kept. -/
def washStarts (x : Ctx) (s t : State) : Prop :=
  t.screen.completed = s.screen.completed ∧ t.screen.working = washSetInForce x.cfg s ∧ t.screen.cycleCount = 0 ∧
  t.screen.drive = driveChoice t ∧
  (s.screen.completed < (washSetInForce x.cfg s).cycles →
    t.screen.wash = .washing ∧ t.screen.cycleTimer = some (s.clock + ms 100) ∧ driveMoves x s t ∧
    t.screen.spray = (s.screen.spray || decide ((washSetInForce x.cfg s).sprayPoint = 0))) ∧
  ((washSetInForce x.cfg s).cycles ≤ s.screen.completed →
    t.screen.wash = .releasing ∧ t.screen.cycleTimer = none ∧ t.screen.spray = false ∧
    (s.link.tx ≠ .mute → handedOver (.release s.screen.tag) t))

/-- The fields of a report at their places in a STATUS payload (11.8): a coded field by its place in the list of its codes. -/
def reportAt (p : List Byte) (r : Report) : Prop :=
  (List.range 8).map (byteAt p 0).testBit =
    [r.restart, r.swarm, r.demandHeld, r.outerSuspect, r.eligible, r.startable, r.runFeedback, r.foulingStale] ∧
  [Stage.linked, .quiet, .isolated][byteAt p 1 % 4]? = some r.stage ∧
  [Sensor.good, .under, .over][byteAt p 1 / 4 % 4]? = some r.outerSensor ∧
  [Sensor.good, .under, .over][byteAt p 1 / 16 % 4]? = some r.innerSensor ∧
  [PumpState.stopped, .startPending, .starting, .running, .stopping, .tripped, .failed, .locked][byteAt p 2 % 16]?
    = some r.pumpState ∧
  [Cause.none, .startLimit, .minStop, .stagger, .suction, .betterStarter, .notEligible, .link][byteAt p 2 / 16]?
    = some r.cause ∧
  [WashState.idle, .claiming, .waiting, .washing, .yielded, .releasing][byteAt p 3 % 8]? = some r.wash ∧
  [ClaimClass.routine, .urgent][byteAt p 3 / 8 % 2]? = some r.cls ∧
  r.tag = byteAt p 3 / 16 ∧ r.fouling = byteAt p 4 ∧ r.outerLevel = intAt p 5 ∧ r.innerLevel = intAt p 7 ∧
  r.runHours = wordAt p 9 ∧ r.starts = byteAt p 11 ∧ r.score = wordAt p 12 ∧ r.screenPeriod = wordAt p 14 ∧
  r.swarmIntensity = wordAt p 16 ∧
  ∀ a : Alarm, [AlarmState.normal, .unack, .acked, .returned][byteAt p (18 + a.index.val / 4) / 4 ^ (a.index.val % 4) % 4]?
    = some r.alarms[a.index]

/-- How a field of the image is stored (11.8). -/
inductive Stored where
  | byte | word | signed | triple
deriving DecidableEq, Repr

/-- A row of the image's table: a field, how and where it is stored, and its range. -/
structure ImageRow where
  stored : Stored
  place  : Nat
  lo     : Int
  hi     : Int
  field  : Settings → Int

/-- The value an image holds at a row's place. -/
def ImageRow.value (r : ImageRow) (p : List Byte) : Int :=
  match r.stored with
  | .byte => byteAt p r.place
  | .word => wordAt p r.place
  | .signed => intAt p r.place
  | .triple => tripleAt p r.place

/-- The places of the fields in the image (11.8) with their ranges: bytes 0 to 26. The range of link_rate is log 11's. -/
def imageRowsLevel : List ImageRow :=
  [⟨.byte, 0, 0, 2, fun c => c.linkRate⟩, ⟨.byte, 1, 2, 16, fun c => c.statusPeriod⟩, ⟨.byte, 2, 3, 15, fun c => c.silentLimit⟩,
   ⟨.byte, 3, 2, 15, fun c => c.quietAfter⟩, ⟨.byte, 4, 3, 60, fun c => c.isolatedAfter⟩,
   ⟨.byte, 5, 5, 120, fun c => c.demandTimeout⟩, ⟨.byte, 6, 0, 12, fun c => c.defaultDemand⟩,
   ⟨.signed, 7, -10000, 10000, fun c => c.outer.zero⟩, ⟨.word, 9, 1000, 20000, fun c => c.outer.span⟩,
   ⟨.signed, 11, -10000, 10000, fun c => c.inner.zero⟩, ⟨.word, 13, 1000, 20000, fun c => c.inner.span⟩,
   ⟨.byte, 15, 0, 5, fun c => c.filterShift⟩, ⟨.word, 16, 0, 500, fun c => c.headStopped⟩,
   ⟨.word, 18, 0, 1000, fun c => c.headRunning⟩, ⟨.word, 20, 100, 3000, fun c => c.headBlocked⟩,
   ⟨.byte, 22, 5, 120, fun c => c.settleTime⟩, ⟨.byte, 23, 1, 99, fun c => c.washThreshold⟩,
   ⟨.byte, 24, 2, 100, fun c => c.urgentThreshold⟩, ⟨.byte, 25, 1, 99, fun c => c.surgeThreshold⟩,
   ⟨.byte, 26, 1, 4, fun c => c.washHeaders⟩]

/-- Bytes 27 to 45. max_wash_interval is also not 1 to 9; the range of shaft_prescale is log 11's. -/
def imageRowsWash : List ImageRow :=
  [⟨.byte, 27, 1, 15, fun c => c.routineSet.cycles⟩, ⟨.word, 28, 10, 600, fun c => c.routineSet.period⟩,
   ⟨.word, 30, 0, 599, fun c => c.routineSet.sprayPoint⟩, ⟨.byte, 32, 1, 15, fun c => c.stormSet.cycles⟩,
   ⟨.word, 33, 10, 600, fun c => c.stormSet.period⟩, ⟨.word, 35, 0, 599, fun c => c.stormSet.sprayPoint⟩,
   ⟨.word, 37, 0, 1440, fun c => c.maxWashInterval⟩, ⟨.byte, 39, 1, 120, fun c => c.minWashGap⟩,
   ⟨.byte, 40, 5, 120, fun c => c.claimMargin⟩, ⟨.byte, 41, 0, 7, fun c => c.shaftPrescale⟩,
   ⟨.byte, 42, 5, 255, fun c => c.stallSlow⟩, ⟨.byte, 43, 5, 255, fun c => c.stallFast⟩,
   ⟨.byte, 44, 1, 30, fun c => c.headerDelay⟩, ⟨.byte, 45, 1, 60, fun c => c.washRetry⟩]

/-- Bytes 46 to 65. -/
def imageRowsTide : List ImageRow :=
  [⟨.byte, 46, 1, 10, fun c => c.tideInterval⟩, ⟨.signed, 47, -10000, 30000, fun c => c.levelLL⟩,
   ⟨.signed, 49, -10000, 30000, fun c => c.levelL⟩, ⟨.signed, 51, -10000, 30000, fun c => c.levelH⟩,
   ⟨.signed, 53, -10000, 30000, fun c => c.levelHH⟩, ⟨.word, 55, 10, 1000, fun c => c.tideHysteresis⟩,
   ⟨.byte, 57, 1, 15, fun c => c.tidePersistence⟩, ⟨.byte, 58, 4, 15, fun c => c.rateWindow⟩,
   ⟨.word, 59, 10, 2000, fun c => c.rateThreshold⟩, ⟨.word, 61, 50, 2000, fun c => c.suspectTolerance⟩,
   ⟨.byte, 63, 1, 15, fun c => c.suspectPersistence⟩, ⟨.byte, 64, 0, 12, fun c => c.capLow⟩,
   ⟨.byte, 65, 0, 12, fun c => c.capLowLow⟩]

/-- Bytes 66 to 90; the seven unused bits of alarm_enable are zero. -/
def imageRowsPump : List ImageRow :=
  [⟨.byte, 66, 0, 7, fun c => c.foulingWeight⟩, ⟨.word, 67, 0, 4000, fun c => c.marginRef⟩,
   ⟨.signed, 69, -10000, 30000, fun c => c.pumpStopLevel⟩, ⟨.signed, 71, -10000, 30000, fun c => c.pumpRestartLevel⟩,
   ⟨.byte, 73, 0, 127, fun c => c.runAllowance⟩, ⟨.byte, 74, 2, 60, fun c => c.dutyInterval⟩,
   ⟨.byte, 75, 1, 10, fun c => c.startGuard⟩, ⟨.byte, 76, 1, 20, fun c => c.startPulse⟩,
   ⟨.byte, 77, 1, 20, fun c => c.stopPulse⟩, ⟨.byte, 78, 2, 60, fun c => c.startTimeout⟩,
   ⟨.byte, 79, 2, 60, fun c => c.stopTimeout⟩, ⟨.byte, 80, 1, 120, fun c => c.minRun⟩, ⟨.byte, 81, 1, 120, fun c => c.minStop⟩,
   ⟨.byte, 82, 1, 6, fun c => c.startLimit⟩, ⟨.byte, 83, 1, 60, fun c => c.trendInterval⟩,
   ⟨.byte, 84, 1, 50, fun c => c.swarmStep⟩, ⟨.byte, 85, 0, 12, fun c => c.swarmCount⟩,
   ⟨.word, 86, 1, 1200, fun c => c.swarmUrgentSum⟩, ⟨.triple, 88, 0, 131071, fun c => (c.alarmEnable.toNat : Int)⟩]

/-- The table of the image (11.8). -/
def imageTable : List ImageRow := imageRowsLevel ++ imageRowsWash ++ imageRowsTide ++ imageRowsPump

/-- The cross-field constraints (R167, test 3). -/
def crossFields (c : Settings) : Prop :=
  c.levelLL < c.levelL ∧ c.levelL < c.levelH ∧ c.levelH < c.levelHH ∧ c.surgeThreshold ≤ c.washThreshold ∧
  c.washThreshold < c.urgentThreshold ∧ c.pumpStopLevel < c.pumpRestartLevel ∧ c.capLowLow ≤ c.capLow ∧
  c.quietAfter < c.isolatedAfter ∧ c.routineSet.sprayPoint < c.routineSet.period ∧ c.stormSet.sprayPoint < c.stormSet.period

end Sys2Proof.Machine
end

