-- ==== Sys2Proof/Certificates/Slice0/Obligations.lean ====
section
/-! DEFINITION. Sys2Proof/Certificates/Slice0/Obligations.lean: the statements for the provers, family by family. A timer's expiry is
stated of a timer that is due (its target reached, R1), so that no statement rests on where the clock then stands (log 3). -/

open Sys2Proof Sys2Proof.Machine

/-! ### The step and the queue -/

/-- A step runs the command at the front of the queue, on the queue's rest. -/
def Obligations.StepRunsTheFrontCommand : Prop :=
  ∀ (c : Instr) (s : State), step { s with pending := c :: s.pending } = exec c s

/-- On an empty queue the station idles and its clock counts a millisecond, unless a reset holds. The model's choice (log 2). -/
def Obligations.EmptyQueueTicksTheClock : Prop :=
  ∀ s : State, s.pending = [] →
    step s = .next (if s.inReset = true then s else { s with clock := s.clock + 1#32 })

/-- No command faults or is refused, and none touches the queue, which is the model's own (log 1). -/
def Obligations.EveryCommandLeavesTheQueue : Prop :=
  ∀ (c : Instr) (s : State), ∃ t, exec c s = .next t ∧ t.pending = s.pending

/-- The values of the reset state: the clock at 0, every output off with SPI_CS high, and each block at the table of its chapter. The
fields the spec gives no reset value (the input lines, the working copy, the poll timer, the index of the choices) are not stated. -/
def Obligations.EveryBlockAtItsResetValues : Prop :=
  State.reset.clock = 0 ∧ State.reset.pending = [] ∧
  outputs State.reset = ⟨false, false, false, false, false, false, false, true⟩ ∧
  (let r : LoopRecord := { state := .under, startMark := true, goodRun := 0, faultRun := 0, acc := 0, level := 0 }
   State.reset.front = ⟨none, r, r⟩) ∧
  (∀ b : Bay, State.reset.peers[b].presence = .empty ∧ State.reset.peers[b].age = 0 ∧ State.reset.peers[b].report = Report.reset) ∧
  State.reset.ageingTimer = none ∧
  State.reset.order = { heard := false, lastApplied := none, demand := 0, rotation := 0, age := 0, demandHeld := true } ∧
  State.reset.ladder = ⟨0, .linked⟩ ∧
  (let t := State.reset.tide
   t.timer = none ∧ t.level = 0 ∧ t.valid = false ∧ t.judged = false ∧ t.disRun = 0 ∧ t.agrRun = 0 ∧ t.suspect = false ∧
   t.lowLowRun = ⟨0, 0⟩ ∧ t.lowRun = ⟨0, 0⟩ ∧ t.highRun = ⟨0, 0⟩ ∧ t.highHighRun = ⟨0, 0⟩ ∧ t.surgeRun = ⟨0, 0⟩ ∧
   t.ring = Vector.replicate 16 0 ∧ t.pointer = 0 ∧ t.fill = 0) ∧
  (let f := State.reset.fouling
   f.index = 0 ∧ f.stale = true ∧ f.runningMark = false ∧ f.settleTimer = none ∧
   (∀ b : Bay, f.lanes[b] = { index := 0, stale := true, present := false, invalidated := true }) ∧
   f.trendTimer = none ∧ f.swarm = false ∧ f.intensity = 0) ∧
  State.reset.claims = ⟨[], none⟩ ∧
  (let c := State.reset.screen
   c.wash = .idle ∧ c.tag = 0 ∧ c.cls = .routine ∧ c.completed = 0 ∧ c.cycleCount = 0 ∧ c.cycleTimer = none ∧ c.drive = .off ∧
   c.prescale = 0 ∧ c.lastCapture = none ∧ c.period = 0 ∧ c.stallTimer = none ∧ c.headerTimer = none ∧ c.retryTimer = none ∧
   c.gapTimer = none ∧ c.intervalTimer = none ∧ c.intervalDue = false ∧ c.spray = false) ∧
  State.reset.duty = { timer := none, score := 1023, candidates := [], ranking := [], ownRank := none, nTarget := 0,
                       running := 0, stopCount := 0 } ∧
  (let p := State.reset.pump
   p.state = .stopped ∧ p.cause = .none ∧ p.pulse = none ∧ p.pulseTimer = none ∧ p.guardTimer = none ∧ p.feedbackTimer = none ∧
   p.minRunTimer = none ∧ p.minStopTimer = none ∧ p.ring = Vector.replicate 6 none ∧ p.pointer = 0 ∧ p.ageTimer = none ∧
   p.runMinutes = 0 ∧ p.minuteAcc = 0 ∧ p.minuteTimer = none) ∧
  (∀ a : Alarm, State.reset.conds.get a = false ∧ alarmState State.reset a = .normal) ∧
  State.reset.link = { tx := .mute, inHand := none, queue := [], accessTimer := none, receiver := .waitIdle,
                       statusTimer := none } ∧
  (let l := State.reset.loader
   l.phase = .loading ∧ l.bay = none ∧ l.cfg = none ∧ l.mark = .lost ∧ l.write = .idle ∧ l.writePending = false ∧
   l.pollCount = 0 ∧ l.window = 0 ∧ l.spi = none)

/-! ### Start-up -/

/-- RESET returns every block to the values of the reset state, whatever it met; the queue, the input lines and the index of the choices
stay, being of the outside or of the model (log 1, log 4, log 6). -/
def Obligations.ResetRestoresEveryBlock : Prop :=
  ∀ s : State, exec .reset s =
    .next { State.reset with pending := s.pending, lines := s.lines, choices := s.choices }

/-- RESET_END reads the straps: 1 to 12 becomes the own bay number and the READ of the image begins; 0 and 13 to 15 halt the station,
and the memory is not read. From a station that keeps its laws every output is then off but ALARM, and SPI_CS is high. -/
def Obligations.ResetEndReadsTheStraps : Prop :=
  ∀ (s : State) (straps : BitVec 4), s.inReset = true →
    (∀ b : Bay, straps.toNat = bayNumber b → exec (.resetEnd straps) s =
      .next { s with inReset := false,
                     loader := { s.loader with phase := .loading, bay := some b, spi := some (.read 0 100) } }) ∧
    (straps.toNat = 0 ∨ 13 ≤ straps.toNat →
      let t : State := { s with inReset := false, loader := { s.loader with phase := .halted, spi := none } }
      exec (.resetEnd straps) s = .next t ∧ (ScreenLaw s → PumpLaw s → LinkLaw s → outputs t = haltedOutputs))

/-- CONFIG_IMAGE_READ_DONE: an image whose CRC agrees, whose fields lie in their ranges with the padding zero, and whose fields meet the
cross-field constraints loads every field from its place, and the READ of the duty record begins; any other halts the station, with the
outputs of HALTED in a station that keeps its laws. That link_rate above 2 and shaft_prescale above 7 are out of range is the model's
inference (log 11). -/
def Obligations.ConfigurationImageLoadsOrHalts : Prop :=
  ∀ (s : State) (image : List Byte), s.inReset = false → s.loader.phase = .loading → s.loader.spi = some (.read 0 100) →
    image.length = 100 →
    let c := imageFields image
    let accepted : Prop :=
      (crc (image.take 98)).toNat = wordAt image 98 ∧ (∀ n, 91 ≤ n → n ≤ 97 → byteAt image n = 0) ∧
      (∀ row ∈ imageTable, row.lo ≤ row.value image ∧ row.value image ≤ row.hi) ∧
      (wordAt image 37 = 0 ∨ 10 ≤ wordAt image 37) ∧ crossFields c
    (∀ row ∈ imageTable, row.field c = row.value image) ∧
    (accepted →
      exec (.configImageReadDone image) s =
        .next { s with loader := { s.loader with cfg := some c, spi := some (.read 128 5) },
                       screen := { s.screen with working := c.routineSet } }) ∧
    (¬accepted →
      let t : State := { s with loader := { s.loader with phase := .halted, spi := none } }
      exec (.configImageReadDone image) s = .next t ∧
      (ScreenLaw s → PumpLaw s → LinkLaw s → outputs t = haltedOutputs))

/-- DUTY_RECORD_READ_DONE: the record is judged by its CRC, the pump state is adopted from the contacts, and every block starts its work
at LISTENING entry. That the STATUS offered is then in hand is log 9's, and that a PUMP TRIP adopted with it leaves no second one
waiting, its alarm being judged before the transmitter leaves MUTE, is log 5's. -/
def Obligations.DutyRecordLeadsToListening : Prop :=
  ∀ (s : State) (b : Bay) (c : Settings) (record : List Byte), s.inReset = false → s.loader.phase = .loading →
    s.loader.spi = some (.read 128 5) → s.loader.bay = some b → s.loader.cfg = some c → record.length = 5 →
    s.link.tx = .mute → s.link.inHand = none → s.link.queue = [] →
    ∃ t, exec (.dutyRecordReadDone record) s = .next t ∧
      (let agrees := decide ((crc (record.take 3)).toNat = wordAt record 3)
       t.loader = { s.loader with phase := .listening, spi := none, mark := if agrees then .good else .lost } ∧
       t.pump.runMinutes = if agrees then tripleAt record 0 else s.pump.runMinutes) ∧
      t.pump.state = (if s.lines.localSel then .locked else if s.lines.trip then .tripped
                      else if s.lines.run then .running else .stopped) ∧
      t.pump.minRunTimer = none ∧
      t.pump.minStopTimer = (if t.pump.state = .stopped then some (s.clock + ms (c.minStop * 60000)) else none) ∧
      t.pump.pulse = s.pump.pulse ∧ t.pump.pulseTimer = s.pump.pulseTimer ∧ t.pump.cause = s.pump.cause ∧
      t.pump.ring = s.pump.ring ∧
      t.pump.minuteTimer = (if countedRunning t then some (s.clock + ms (60000 - s.pump.minuteAcc)) else s.pump.minuteTimer) ∧
      t.conds = { s.conds with pumpTrip := decide (t.pump.state = .tripped) } ∧
      (t.pump.state = .tripped → alarmEnabled c 9 = true → alarmState s .pumpTrip = .normal → alarmState t .pumpTrip = .unack) ∧
      t.fouling = { s.fouling with
        runningMark := countedRunning t,
        trendTimer := if 1 ≤ c.swarmCount then some (s.clock + ms (c.trendInterval * 60000)) else none } ∧
      t.front = { s.front with sampleTimer := some s.clock } ∧
      t.peers = s.peers.set b { s.peers[b] with presence := .present, age := 0 } ∧
      t.ageingTimer = some (s.clock + ms (c.statusPeriod * 250)) ∧
      t.tide = { s.tide with timer := some (s.clock + ms (c.tideInterval * 1000)) } ∧
      t.claims = { s.claims with rangeTimer := some (s.clock + ms 100) } ∧
      t.duty = { s.duty with timer := some (s.clock + ms (c.dutyInterval * 1000)) } ∧
      t.screen.drive = driveChoice t ∧ t.screen.wash = s.screen.wash ∧
      t.link.tx = .defer ∧ t.link.inHand = some ⟨.status, 1, []⟩ ∧ t.link.queue = [] ∧
      t.link.statusTimer = some (s.clock + ms (c.statusPeriod * 250)) ∧
      t.inReset = false ∧ t.clock = s.clock ∧ t.lines = s.lines ∧ t.order = s.order ∧ t.ladder = s.ladder

/-! ### The level front end -/

/-- The clamp and the conversion. A margin code is sampled as the end of the live span, every clamped code lies in 800 to 4000, and the
level is Z0 plus the floored share of the span, within Z0 to Z0 + S and within -10000 to +30000 mm, with the extremes reached at the
ends; the level of a code is that of its clamp, and the outer loop uses the outer settings and the inner loop the inner ones. -/
def Obligations.CodesConvertToLevels : Prop :=
  (∀ c, 760 ≤ c → c ≤ 799 → clampCode c = 800) ∧ (∀ c, 4001 ≤ c → c ≤ 4040 → clampCode c = 4000) ∧
  (∀ c, 800 ≤ c → c ≤ 4000 → clampCode c = c) ∧
  (∀ c, 760 ≤ c → c ≤ 4040 → 800 ≤ clampCode c ∧ clampCode c ≤ 4000 ∧
    ∀ k l r, sampleLoop k l c r = sampleLoop k l (clampCode c) r) ∧
  (∀ (l : LoopSettings) (c : Nat), loopInRange l = true → 800 ≤ c → c ≤ 4000 →
    convertCode l c = l.zero + Int.fdiv (((c : Int) - 800) * l.span) 3200 ∧
    0 ≤ ((c : Int) - 800) * l.span ∧ ((c : Int) - 800) * l.span ≤ 64000000 ∧
    l.zero ≤ convertCode l c ∧ convertCode l c ≤ l.zero + l.span ∧
    -10000 ≤ convertCode l c ∧ convertCode l c ≤ 30000) ∧
  (∀ (l : LoopSettings) (c : Nat), 760 ≤ c → c ≤ 4040 → levelOfCode l c = convertCode l (clampCode c)) ∧
  convertCode ⟨-10000, 1000⟩ 800 = -10000 ∧ convertCode ⟨10000, 20000⟩ 4000 = 30000 ∧
  (∀ (x : Ctx) (outer inner : Nat) (s : State),
    (sampledLoops x outer inner s).front.outer = sampleLoop x.cfg.filterShift x.cfg.outer outer s.front.outer ∧
    (sampledLoops x outer inner s).front.inner = sampleLoop x.cfg.filterShift x.cfg.inner inner s.front.inner)

/-- One sample of a loop: the sensor state, the two runs, the start mark and the filter. A code below 760 or above 4040 counts toward a
fault of its kind and leaves the filter; any other restores a loop at its start mark, updates a good loop, and restores a failed one at
the third in a row. -/
def Obligations.SamplesJudgeTheSensor : Prop :=
  ∀ (k : Nat) (l : LoopSettings) (c : Nat) (r : LoopRecord), r.goodRun ≤ 3 → r.faultRun ≤ 3 →
    (c < 760 ∨ 4040 < c → r.faultRun < 2 →
      sampleLoop k l c r = { r with goodRun := 0, faultRun := r.faultRun + 1 }) ∧
    (c < 760 ∨ 4040 < c → 2 ≤ r.faultRun →
      sampleLoop k l c r =
        { r with goodRun := 0, faultRun := 3, state := if c < 760 then .under else .over, startMark := false }) ∧
    (760 ≤ c → c ≤ 4040 → r.startMark = true →
      sampleLoop k l c r = { state := .good, startMark := false, goodRun := 1, faultRun := 0,
                             acc := levelOfCode l c * 2 ^ k, level := levelOfCode l c }) ∧
    (760 ≤ c → c ≤ 4040 → r.startMark = false → r.state = .good →
      sampleLoop k l c r = { r with
        goodRun := min (r.goodRun + 1) 3, faultRun := 0, acc := r.acc + levelOfCode l c - Int.fdiv r.acc (2 ^ k),
        level := Int.fdiv (r.acc + levelOfCode l c - Int.fdiv r.acc (2 ^ k)) (2 ^ k) }) ∧
    (760 ≤ c → c ≤ 4040 → r.startMark = false → r.state ≠ .good → r.goodRun < 2 →
      sampleLoop k l c r = { r with goodRun := r.goodRun + 1, faultRun := 0 }) ∧
    (760 ≤ c → c ≤ 4040 → r.startMark = false → r.state ≠ .good → 2 ≤ r.goodRun →
      sampleLoop k l c r = { state := .good, startMark := false, goodRun := 3, faultRun := 0,
                             acc := levelOfCode l c * 2 ^ k, level := levelOfCode l c })

/-- The filter update and its properties: bounded between the old level and the new, within the range fed and its scaled accumulator, a
constant input held, a constant input reached after finitely many samples and kept, and no filtering at k = 0. -/
def Obligations.FilterIsBoundedAndSettles : Prop :=
  ∀ (k : Nat) (L : Int) (r : LoopRecord), k ≤ 5 → r.level = Int.fdiv r.acc (2 ^ k) →
    let t := filterUpdate k L r
    (t.acc = r.acc + L - Int.fdiv r.acc (2 ^ k) ∧ t.level = Int.fdiv t.acc (2 ^ k)) ∧
    (min r.level L ≤ t.level ∧ t.level ≤ max r.level L) ∧
    (∀ lo hi : Int, lo ≤ L → L ≤ hi → lo * 2 ^ k ≤ r.acc → r.acc ≤ hi * 2 ^ k →
      lo ≤ t.level ∧ t.level ≤ hi ∧ lo * 2 ^ k ≤ t.acc ∧ t.acc ≤ hi * 2 ^ k) ∧
    (-10000 ≤ L → L ≤ 30000 → -10000 * 2 ^ k ≤ r.acc → r.acc ≤ 30000 * 2 ^ k → t.acc.natAbs ≤ 960000) ∧
    (r.acc = L * 2 ^ k → t.acc = r.acc ∧ t.level = r.level) ∧
    (r.level = L → t.acc = r.acc ∧ t.level = L) ∧
    (r.level ≠ L → (t.acc - L * 2 ^ k).natAbs + 1 ≤ (r.acc - L * 2 ^ k).natAbs) ∧
    (∃ n, ∀ m, n ≤ m → ((filterUpdate k L)^[m] r).level = L) ∧
    (k = 0 → t.acc = L ∧ t.level = L)

/-- SAMPLE_TIMER_EXPIRY takes a sample of each loop, forms INNER SENSOR, OUTER SENSOR and SUCTION LOW from it, and moves its timer's
target on by 100 ms. SUCTION LOW is judged while the inner sensor is GOOD. Of the other conditions only SCREEN BLOCKED and those that
follow the pump state may change; of the pump, nothing of the start ring; and no other block. The fouling index of the pair brings a
trigger check: in IDLE and OPERATING an URGENT trigger makes an URGENT claim and else a ROUTINE trigger a ROUTINE one, under the blocks
of each; with no claim the screen controller stands, and with no alarm and no pump state moved the link interface too. -/
def Obligations.SampleTakesThePair : Prop :=
  ∀ (s : State) (x : Ctx) (d : Clock) (outer inner : BitVec 12), ctx? s = some x → s.front.sampleTimer = some d →
    reached s.clock d = true →
    ∃ t, exec (.sampleTimerExpiry outer inner) s = .next t ∧
      t.front = { sampleTimer := some (d + ms 100),
                  outer := sampleLoop x.cfg.filterShift x.cfg.outer outer.toNat s.front.outer,
                  inner := sampleLoop x.cfg.filterShift x.cfg.inner inner.toNat s.front.inner } ∧
      t.conds.innerSensor = decide (t.front.inner.state ≠ .good) ∧
      t.conds.outerSensor = (decide (t.front.outer.state ≠ .good) || s.tide.suspect) ∧
      t.conds.suctionLow =
        (if t.front.inner.state ≠ .good then s.conds.suctionLow
         else if s.conds.suctionLow then decide (t.front.inner.level < x.cfg.pumpRestartLevel)
         else decide (t.front.inner.level < x.cfg.pumpStopLevel)) ∧
      t.conds = { s.conds with
        innerSensor := t.conds.innerSensor, outerSensor := t.conds.outerSensor, suctionLow := t.conds.suctionLow,
        screenBlocked := t.conds.screenBlocked, pumpTrip := t.conds.pumpTrip, pumpFail := t.conds.pumpFail } ∧
      t.fouling = { s.fouling with
        index := t.fouling.index, stale := t.fouling.stale, runningMark := t.fouling.runningMark,
        settleTimer := t.fouling.settleTimer } ∧
      (let blocked : Prop := s.conds.screenStall = true ∨ alarmState s .screenStall ≠ .normal ∨
         s.screen.retryTimer.isSome = true ∨ s.conds.bayConflict = true
       let urgent : Prop := x.cfg.urgentThreshold ≤ t.fouling.index ∧ t.fouling.stale = false
       let routine : Prop :=
         ((if s.conds.surge then x.cfg.surgeThreshold else x.cfg.washThreshold) ≤ t.fouling.index ∧ t.fouling.stale = false)
           ∨ s.screen.intervalDue = true
       let held : Prop := s.ladder.stage = .isolated ∨ s.screen.gapTimer.isSome = true
       let claims (k : ClaimClass) : Prop :=
         t.screen = { s.screen with
           wash := .claiming, tag := (s.screen.tag + 1) % 16, cls := k, completed := 0, drive := driveChoice t,
           stallTimer := t.screen.stallTimer, prescale := t.screen.prescale, lastCapture := t.screen.lastCapture,
           period := t.screen.period } ∧
         driveMoves x s t ∧
         (s.link.tx ≠ .mute →
           let w := if s.conds.surge then x.cfg.stormSet else x.cfg.routineSet
           handedOver (.claim ((s.screen.tag + 1) % 16) k (w.cycles * w.period)) t ∧ handedOver .status t)
       (s.screen.wash ≠ .idle ∨ s.loader.phase ≠ .operating ∨ blocked ∨ (¬urgent ∧ (¬routine ∨ held)) →
         t.screen = s.screen ∧ (t.alarms = s.alarms → t.pump.state = s.pump.state → t.link = s.link)) ∧
       (s.screen.wash = .idle → s.loader.phase = .operating → ¬blocked → urgent → claims .urgent) ∧
       (s.screen.wash = .idle → s.loader.phase = .operating → ¬blocked → ¬urgent → routine → ¬held → claims .routine)) ∧
      t.pump.ring = s.pump.ring ∧ t.pump.pointer = s.pump.pointer ∧ t.pump.ageTimer = s.pump.ageTimer ∧
      t = { s with front := t.front, choices := t.choices, fouling := t.fouling, screen := t.screen, pump := t.pump,
                   conds := t.conds, alarms := t.alarms, link := t.link, loader := t.loader } ∧
      t.loader = { s.loader with write := t.loader.write, writePending := t.loader.writePending, spi := t.loader.spi }

/-- The pair updates the fouling index by the first case that applies, and SCREEN BLOCKED after it, whenever the same pair leaves
SUCTION LOW as it was. A rise of SCREEN BLOCKED stops a STARTING or RUNNING pump. A pending start is withdrawn with NOT ELIGIBLE where
the inner sensor is not GOOD after the sample, and, the other parts of STARTABLE holding, where SCREEN BLOCKED rises; else it stands. -/
def Obligations.PairUpdatesTheFoulingIndex : Prop :=
  ∀ (s t : State) (x : Ctx) (d : Clock) (outer inner : BitVec 12), ctx? s = some x → s.front.sampleTimer = some d →
    reached s.clock d = true → exec (.sampleTimerExpiry outer inner) s = .next t → t.conds.suctionLow = s.conds.suctionLow →
    (t.fouling.index, t.fouling.stale) =
      (if t.front.outer.state ≠ .good ∨ t.front.inner.state ≠ .good then (s.fouling.index, true)
       else if s.tide.suspect = true ∧ s.tide.valid = false then (s.fouling.index, true)
       else if s.fouling.settleTimer.isSome = true then (s.fouling.index, s.fouling.stale)
       else (foulingOfHead ((if s.tide.suspect then s.tide.level else t.front.outer.level) - t.front.inner.level)
               (if s.fouling.runningMark then x.cfg.headRunning else x.cfg.headStopped) x.cfg.headBlocked, false)) ∧
    t.conds.screenBlocked =
      (if s.conds.screenBlocked then decide (x.cfg.washThreshold < t.fouling.index)
       else decide (t.fouling.index = 100) && !t.fouling.stale) ∧
    (s.conds.screenBlocked = false → t.conds.screenBlocked = true → s.pump.state = .starting ∨ s.pump.state = .running →
      t.pump.state = .stopping ∧ t.pump.pulse = some .stop) ∧
    (let withdrawn : Prop := t.pump = { s.pump with state := .stopped, cause := .notEligible, guardTimer := none }
     s.pump.state = .startPending →
       (t.front.inner.state ≠ .good → withdrawn) ∧
       (t.front.inner.state = .good → s.loader.phase = .operating → s.conds.bayConflict = false → s.conds.screenBlocked = false →
         startsInLastHour s < x.cfg.startLimit → s.pump.minStopTimer = none → s.conds.suctionLow = false →
         (t.conds.screenBlocked = true → withdrawn) ∧ (t.conds.screenBlocked = false → t.pump = s.pump)))

/-- A rise of SUCTION LOW stops the pump at once: STARTING and RUNNING become STOPPING with a STOP pulse, START_PENDING becomes STOPPED,
its guard stopped and its min_stop as it was; every other state stays. The cause of the start so withdrawn is SUCTION, the other parts of
STARTABLE holding; where SCREEN BLOCKED rises at the same pair, it may be NOT ELIGIBLE, the two hand-overs going in either order. -/
def Obligations.SuctionLowStopsThePump : Prop :=
  ∀ (s t : State) (x : Ctx) (d : Clock) (outer inner : BitVec 12), ctx? s = some x → s.front.sampleTimer = some d →
    reached s.clock d = true → exec (.sampleTimerExpiry outer inner) s = .next t → s.conds.suctionLow = false →
    t.conds.suctionLow = true →
    (s.pump.state = .starting ∨ s.pump.state = .running →
      t.pump.state = .stopping ∧ t.pump.pulse = some .stop ∧
      t.pump.pulseTimer = some (s.clock + ms (x.cfg.stopPulse * 100)) ∧
      t.pump.feedbackTimer = some (s.clock + ms (x.cfg.stopTimeout * 1000)) ∧ t.pump.minRunTimer = none) ∧
    (s.pump.state = .startPending →
      t.pump = { s.pump with state := .stopped, cause := t.pump.cause, guardTimer := none } ∧
      (s.loader.phase = .operating → s.conds.bayConflict = false → s.conds.screenBlocked = false →
        startsInLastHour s < x.cfg.startLimit → s.pump.minStopTimer = none →
        t.pump.cause = .suction ∨ (t.conds.screenBlocked = true ∧ t.pump.cause = .notEligible))) ∧
    (s.pump.state ≠ .starting → s.pump.state ≠ .running → s.pump.state ≠ .startPending → t.pump.state = s.pump.state)

/-! ### The fouling monitor and the swarm watch -/

/-- The computation of F: 0 at or below the reference head, 100 from the blocked head up, the floored share between them, within 0 to
99; Lo is the own outer level, or the consensus while SUSPECT is set; the head loss and the product stay in their ranges. -/
def Obligations.FoulingIndexOfTheHeadLoss : Prop :=
  ∀ (c : Settings) (s : State), s.front.outer.state = .good → s.front.inner.state = .good →
    (s.tide.suspect = true → s.tide.valid = true) → s.fouling.settleTimer = none →
    100 ≤ c.headBlocked → c.headBlocked ≤ 3000 →
    let lo := if s.tide.suspect then s.tide.level else s.front.outer.level
    let D := lo - s.front.inner.level
    let href : Int := if s.fouling.runningMark then c.headRunning else c.headStopped
    let f := (foulingAfterPair c s).1
    (D ≤ href → f = 0) ∧ ((c.headBlocked : Int) ≤ D - href → f = 100) ∧
    (href < D → D - href < c.headBlocked →
      (f : Int) = Int.fdiv (100 * (D - href)) c.headBlocked ∧ f ≤ 99 ∧
      1 ≤ D - href ∧ D - href ≤ c.headBlocked - 1 ∧ 100 * (D - href) < 300000) ∧
    f ≤ 100 ∧
    (-10000 ≤ lo → lo ≤ 30000 → -10000 ≤ s.front.inner.level → s.front.inner.level ≤ 30000 → -40000 ≤ D ∧ D ≤ 40000) ∧
    (s.front.outer.level < s.front.inner.level → s.tide.suspect = false → f = 0)

/-- TREND_TIMER_EXPIRY: the intensity is the sum of the rises of the counted lanes, SWARM is true when enough of them rose by
swarm_step, the snapshot is retaken for every lane, and a change of SWARM chooses the drive afresh; a rise may make a claim, a fall or
no change leaves the wash state. The drive moves the shaft capture and the stall window with it. -/
def Obligations.TrendExpiryJudgesTheSwarm : Prop :=
  ∀ (s : State) (x : Ctx) (d : Clock), ctx? s = some x → s.fouling.trendTimer = some d → reached s.clock d = true →
    ∃ t, exec .trendTimerExpiry s = .next t ∧
      (let now (b : Bay) : LaneNow :=
         if b = x.bay then ⟨s.fouling.index, s.fouling.stale, true⟩
         else ⟨s.peers[b].report.fouling, s.peers[b].report.foulingStale, decide (s.peers[b].presence = .present)⟩
       let counts (b : Bay) : Prop :=
         s.fouling.lanes[b].present = true ∧ (now b).present = true ∧ s.fouling.lanes[b].invalidated = false ∧
         s.fouling.lanes[b].stale = false ∧ (now b).stale = false
       let delta (b : Bay) : Nat := (now b).index - s.fouling.lanes[b].index
       t.fouling.intensity = ((Finset.univ.filter counts).sum delta) ∧
       (t.fouling.swarm = true ↔ x.cfg.swarmCount ≤ (Finset.univ.filter fun b => counts b ∧ x.cfg.swarmStep ≤ delta b).card) ∧
       ∀ b : Bay, t.fouling.lanes[b] = ⟨(now b).index, (now b).stale, (now b).present, false⟩) ∧
      t.fouling = { s.fouling with
        trendTimer := some (d + ms (x.cfg.trendInterval * 60000)), intensity := t.fouling.intensity, swarm := t.fouling.swarm,
        lanes := t.fouling.lanes } ∧
      (t.fouling.swarm = s.fouling.swarm → t.screen = s.screen ∧ t.link = s.link) ∧
      driveMoves x s t ∧
      (t.fouling.swarm ≠ s.fouling.swarm → t.screen.drive = driveChoice t ∧ (s.link.tx ≠ .mute → handedOver .status t)) ∧
      (t.fouling.swarm = false → t.screen.wash = s.screen.wash) ∧
      (t.fouling.swarm = true → s.fouling.swarm = false → s.screen.wash = .idle → s.loader.phase = .operating →
        claimsBlocked s = false → routineBlocked s = false →
        t.screen.wash = .claiming ∧ t.screen.tag = (s.screen.tag + 1) % 16 ∧
        (x.cfg.swarmUrgentSum ≤ t.fouling.intensity → t.screen.cls = .urgent)) ∧
      t = { s with fouling := t.fouling, screen := t.screen, link := t.link }

/-! ### The tide monitor -/

/-- The median: of readings placed in ascending order, the middle one of an odd number, the floored mean of the two middle ones of an
even number; none of none. It lies between the least and the greatest reading, and with three readings or more it is moved beyond the
nearest of the others by no single one. The consensus of one reading or more is their median, and it is valid. -/
def Obligations.MedianIsTheMiddleReading : Prop :=
  ∀ l : List Int,
    (median l = none ↔ l = []) ∧
    (∀ r : List Int, r.Perm l → r.Pairwise (· ≤ ·) →
      (l.length % 2 = 1 → median l = r[(l.length - 1) / 2]?) ∧
      (l.length % 2 = 0 → ∀ a b, r[l.length / 2 - 1]? = some a → r[l.length / 2]? = some b → l ≠ [] →
        median l = some (Int.fdiv (a + b) 2))) ∧
    (∀ m, median l = some m → (∃ a ∈ l, a ≤ m) ∧ (∃ b ∈ l, m ≤ b) ∧ (l.length % 2 = 1 → m ∈ l)) ∧
    (∀ (v m : Int), 2 ≤ l.length → median (v :: l) = some m → (∃ a ∈ l, a ≤ m) ∧ (∃ b ∈ l, m ≤ b)) ∧
    (∀ a b : Int, (l = [a] → median l = some a) ∧ (l = [a, b] → median l = some (Int.fdiv (a + b) 2))) ∧
    (∀ (x : Ctx) (s : State), l = readings x s → l ≠ [] →
      median l = some (formConsensus x s).tide.level ∧ (formConsensus x s).tide.valid = true ∧
      ((∀ a ∈ l, -10000 ≤ a ∧ a ≤ 30000) →
        -10000 ≤ (formConsensus x s).tide.level ∧ (formConsensus x s).tide.level ≤ 30000))

/-- TIDE_TIMER_EXPIRY, the suspect judgement and the consensus: a peer reading is the outer level of a PRESENT foreign bay that reports
its outer sensor GOOD and OUTER SUSPECT clear. SUSPECT and its runs follow the comparison of the own level with the median of two or
more peer readings, and the consensus is the median of the readings that count, kept and invalid where none does. A run that reaches its
persistence without changing SUSPECT is not stated (log 15). LEVEL UNKNOWN and OUTER SENSOR follow. A change of HIGH-HIGH or SURGE
chooses the drive afresh, which moves the shaft capture and the stall window with it. -/
def Obligations.TideEvaluationFormsTheConsensus : Prop :=
  ∀ (s : State) (x : Ctx) (d : Clock), ctx? s = some x → s.tide.timer = some d → reached s.clock d = true →
    ∃ t, exec .tideTimerExpiry s = .next t ∧
      t.tide.timer = some (d + ms (x.cfg.tideInterval * 1000)) ∧ t.tide.judged = true ∧
      (let ps := (List.finRange 12).filterMap fun b =>
         if b ≠ x.bay ∧ s.peers[b].presence = .present ∧ s.peers[b].report.outerSensor = .good ∧
             s.peers[b].report.outerSuspect = false
         then some s.peers[b].report.outerLevel else none
       let own := s.front.outer.level
       (s.front.outer.state ≠ .good ∨ ps.length < 2 →
         t.tide.suspect = s.tide.suspect ∧ t.tide.disRun = s.tide.disRun ∧ t.tide.agrRun = s.tide.agrRun) ∧
       (∀ m, s.front.outer.state = .good → 2 ≤ ps.length → median ps = some m →
         (x.cfg.suspectTolerance < (own - m).natAbs → s.tide.disRun + 1 < x.cfg.suspectPersistence →
           t.tide.suspect = s.tide.suspect ∧ t.tide.disRun = s.tide.disRun + 1 ∧ t.tide.agrRun = 0) ∧
         (x.cfg.suspectTolerance < (own - m).natAbs → x.cfg.suspectPersistence ≤ s.tide.disRun + 1 →
           t.tide.suspect = true ∧ t.tide.agrRun = 0 ∧ (s.tide.suspect = false → t.tide.disRun = 0)) ∧
         ((own - m).natAbs ≤ x.cfg.suspectTolerance → s.tide.agrRun + 1 < x.cfg.suspectPersistence →
           t.tide.suspect = s.tide.suspect ∧ t.tide.agrRun = s.tide.agrRun + 1 ∧ t.tide.disRun = 0) ∧
         ((own - m).natAbs ≤ x.cfg.suspectTolerance → x.cfg.suspectPersistence ≤ s.tide.agrRun + 1 →
           t.tide.suspect = false ∧ t.tide.disRun = 0 ∧ (s.tide.suspect = true → t.tide.agrRun = 0))) ∧
       (let rs := if s.front.outer.state = .good ∧ t.tide.suspect = false then own :: ps else ps
        (∀ m, median rs = some m → t.tide.level = m ∧ t.tide.valid = true) ∧
        (rs = [] → t.tide.level = s.tide.level ∧ t.tide.valid = false))) ∧
      t.conds.levelUnknown = !t.tide.valid ∧
      (t.tide.suspect ≠ s.tide.suspect →
        t.conds.outerSensor = (decide (s.front.outer.state ≠ .good) || t.tide.suspect) ∧ (s.link.tx ≠ .mute → handedOver .status t)) ∧
      (t.tide.suspect = s.tide.suspect → t.conds.outerSensor = s.conds.outerSensor) ∧
      t.conds = { s.conds with
        lowLow := t.conds.lowLow, low := t.conds.low, high := t.conds.high, highHigh := t.conds.highHigh,
        surge := t.conds.surge, levelUnknown := t.conds.levelUnknown, outerSensor := t.conds.outerSensor } ∧
      (if t.conds.highHigh = s.conds.highHigh ∧ t.conds.surge = s.conds.surge then t.screen = s.screen
       else driveMoves x s t ∧ t.screen = { s.screen with
         drive := driveChoice t, stallTimer := t.screen.stallTimer, prescale := t.screen.prescale,
         lastCapture := t.screen.lastCapture, period := t.screen.period }) ∧
      t = { s with tide := t.tide, screen := t.screen, conds := t.conds, alarms := t.alarms, link := t.link }

/-- The level conditions follow the tables of the consensus, each on its own runs, and SURGE that of the rise over the rate window,
measured once the ring holds more than rate_window values. At an invalid consensus the four keep their values, every run breaks, the
ring empties and SURGE is false. -/
def Obligations.TideConditionsFollowTheConsensus : Prop :=
  ∀ (s t : State) (x : Ctx) (d : Clock), ctx? s = some x → s.tide.timer = some d → reached s.clock d = true →
    exec .tideTimerExpiry s = .next t →
    let np := x.cfg.tidePersistence
    let hy : Int := x.cfg.tideHysteresis
    let y := t.tide.level
    (t.tide.valid = true →
      followsTable np (y < x.cfg.levelL) (x.cfg.levelL + hy ≤ y) s.conds.low s.tide.lowRun t.conds.low t.tide.lowRun ∧
      followsTable np (y < x.cfg.levelLL) (x.cfg.levelLL + hy ≤ y) s.conds.lowLow s.tide.lowLowRun
        t.conds.lowLow t.tide.lowLowRun ∧
      followsTable np (x.cfg.levelH < y) (y ≤ x.cfg.levelH - hy) s.conds.high s.tide.highRun t.conds.high t.tide.highRun ∧
      followsTable np (x.cfg.levelHH < y) (y ≤ x.cfg.levelHH - hy) s.conds.highHigh s.tide.highHighRun
        t.conds.highHigh t.tide.highHighRun ∧
      t.tide.ring = s.tide.ring.set s.tide.pointer y ∧ t.tide.pointer = s.tide.pointer + 1 ∧
      t.tide.fill = min (s.tide.fill + 1) 16 ∧
      (x.cfg.rateWindow < t.tide.fill →
        let rise := y - t.tide.ring[s.tide.pointer - Fin.ofNat 16 x.cfg.rateWindow]
        followsTable np ((x.cfg.rateThreshold : Int) ≤ rise) (rise < ((x.cfg.rateThreshold / 2 : Nat) : Int))
          s.conds.surge s.tide.surgeRun t.conds.surge t.tide.surgeRun) ∧
      (t.tide.fill ≤ x.cfg.rateWindow → t.conds.surge = s.conds.surge ∧ t.tide.surgeRun = s.tide.surgeRun)) ∧
    (t.tide.valid = false →
      t.conds.low = s.conds.low ∧ t.conds.lowLow = s.conds.lowLow ∧ t.conds.high = s.conds.high ∧
      t.conds.highHigh = s.conds.highHigh ∧ t.tide.lowRun = ⟨0, 0⟩ ∧ t.tide.lowLowRun = ⟨0, 0⟩ ∧ t.tide.highRun = ⟨0, 0⟩ ∧
      t.tide.highHighRun = ⟨0, 0⟩ ∧ t.conds.surge = false ∧ t.tide.surgeRun = ⟨0, 0⟩ ∧ t.tide.fill = 0 ∧
      t.tide.ring = s.tide.ring ∧ t.tide.pointer = s.tide.pointer)

/-! ### The claim list -/

/-- RANGE_TIMER_EXPIRY, in a list that keeps its law: every foreign entry in the grant range counts one unit more, saturating, and the
entries then past their duration and the margin leave together; the others stand as they were. A standing that stays as it was leaves
the screen controller and the link interface; a claim WAITING or YIELDED that comes into range begins its wash afresh, or completes
it. -/
def Obligations.RangeExpiryCountsAndExpires : Prop :=
  ∀ (s : State) (x : Ctx) (d : Clock), ClaimLaw s → ctx? s = some x → s.claims.rangeTimer = some d → reached s.clock d = true →
    ∃ t, exec .rangeTimerExpiry s = .next t ∧
      t.claims.rangeTimer = some (d + ms 100) ∧
      t.claims.entries = (s.claims.entries.zipIdx.filterMap fun p =>
        if p.2 < x.cfg.washHeaders ∧ p.1.bay ≠ x.bay then
          if p.1.duration + 10 * x.cfg.claimMargin < min (p.1.inRange + 1) 65535 then none
          else some { p.1 with inRange := min (p.1.inRange + 1) 65535 }
        else some p.1) ∧
      (standingIn x t.claims.entries = standingIn x s.claims.entries → t.screen = s.screen ∧ t.link = s.link) ∧
      (s.screen.wash = .waiting ∨ s.screen.wash = .yielded → standingIn x s.claims.entries = .beyondRange →
        standingIn x t.claims.entries = .inRange → washStarts x s t) ∧
      t = { s with claims := t.claims, screen := t.screen, link := t.link }

/-- CLAIM_FRAME from a foreign bay: the ladder returns to LINKED; a PRESENT bay's entry is refreshed and its claim, when it passes the
check, is listed in place of any it had, an URGENT one directly behind the last URGENT entry and a ROUTINE one at the end; a bay that is
not PRESENT, or a claim that fails the check, lists nothing. A frame that bears the own bay is discarded. -/
def Obligations.ClaimFrameIsListed : Prop :=
  ∀ (s : State) (x : Ctx) (f : Frame) (b : Bay), ClaimLaw s → ctx? s = some x → s.link.receiver ≠ .waitIdle → s.link.tx ≠ .send →
    frameValid f = true → f.kind = kindClaim → bayOfByte f.bay = some b →
    ∃ t, exec (.claimFrame f) s = .next t ∧ t.link.receiver = .waitIdle ∧
      (b = x.bay → t = { s with link := { s.link with receiver := .waitIdle } }) ∧
      (b ≠ x.bay →
        t.ladder = ⟨0, .linked⟩ ∧ t.conds.linkIsolated = (s.conds.linkIsolated && decide (s.ladder.stage = .linked)) ∧
        (s.peers[b].presence = .present → t.peers = s.peers.set b { s.peers[b] with age := 0 }) ∧
        (s.peers[b].presence ≠ .present → t.peers = s.peers ∧ t.claims = s.claims) ∧
        (let tag := byteAt f.payload 0
         let k := byteAt f.payload 1
         let duration := wordAt f.payload 2
         let others := s.claims.entries.filter fun e => e.bay ≠ b
         (15 < tag ∨ 1 < k ∨ duration = 0 ∨ 9000 < duration → t.claims = s.claims) ∧
         (s.peers[b].presence = .present → tag ≤ 15 → 1 ≤ duration → duration ≤ 9000 →
           (k = 0 → t.claims.entries = regraded x (others ++ [⟨b, tag, .routine, duration, 0⟩])) ∧
           (k = 1 → t.claims.entries = regraded x
             (others.filter (fun e => e.cls = .urgent) ++ ⟨b, tag, .urgent, duration, 0⟩
               :: others.filter fun e => e.cls = .routine)))) ∧
        (standingIn x t.claims.entries = standingIn x s.claims.entries → t.screen = s.screen) ∧
        (s.screen.wash = .washing → standingIn x s.claims.entries = .inRange → standingIn x t.claims.entries = .beyondRange →
          t.screen.wash = .yielded ∧ t.screen.spray = false ∧ t.screen.cycleTimer = none ∧
          t.screen.completed = s.screen.completed) ∧
        t = { s with ladder := t.ladder, peers := t.peers, claims := t.claims, screen := t.screen, conds := t.conds,
                     alarms := t.alarms, link := t.link })

/-- RELEASE_FRAME from a foreign bay: the ladder returns to LINKED, a PRESENT entry is refreshed, and the listed claim of the bay leaves
when its tag is the frame's; one of another tag, and every other entry, stays. An own claim WAITING or YIELDED that so comes into range
begins its wash afresh, with the cycles completed before kept, or completes it when they already meet the set. A frame that bears the
own bay is discarded. -/
def Obligations.ReleaseFrameRemovesTheClaim : Prop :=
  ∀ (s : State) (x : Ctx) (f : Frame) (b : Bay), ctx? s = some x → s.link.receiver ≠ .waitIdle → s.link.tx ≠ .send →
    frameValid f = true → f.kind = kindRelease → bayOfByte f.bay = some b →
    ∃ t, exec (.releaseFrame f) s = .next t ∧ t.link.receiver = .waitIdle ∧
      (b = x.bay → t = { s with link := { s.link with receiver := .waitIdle } }) ∧
      (b ≠ x.bay →
        t.ladder = ⟨0, .linked⟩ ∧
        (s.peers[b].presence = .present → t.peers = s.peers.set b { s.peers[b] with age := 0 }) ∧
        (s.peers[b].presence ≠ .present → t.peers = s.peers) ∧
        ((∃ e ∈ s.claims.entries, e.bay = b ∧ e.tag = byteAt f.payload 0) →
          t.claims.entries = regraded x (s.claims.entries.filter fun e => e.bay ≠ b)) ∧
        ((∀ e ∈ s.claims.entries, e.bay = b → e.tag ≠ byteAt f.payload 0) → t.claims = s.claims ∧ t.screen = s.screen) ∧
        (s.screen.wash = .waiting ∨ s.screen.wash = .yielded → standingIn x s.claims.entries = .beyondRange →
          standingIn x t.claims.entries = .inRange → washStarts x s t) ∧
        t = { s with ladder := t.ladder, peers := t.peers, claims := t.claims, screen := t.screen, conds := t.conds,
                     alarms := t.alarms, link := t.link })

/-! ### The screen controller -/

/-- GAP_TIMER_EXPIRY: the timer stops and a trigger check is made, in IDLE and OPERATING alone. An URGENT trigger makes an URGENT claim
and else a ROUTINE trigger a ROUTINE one, under the blocks of each; a claim advances the tag and hands its CLAIM over. -/
def Obligations.GapExpiryChecksTheTriggers : Prop :=
  ∀ (s : State) (x : Ctx) (d : Clock), ctx? s = some x → s.screen.gapTimer = some d → reached s.clock d = true →
    let blocked : Prop := s.conds.screenStall = true ∨ alarmState s .screenStall ≠ .normal ∨ s.screen.retryTimer.isSome = true ∨
      s.conds.bayConflict = true
    let urgent : Prop := x.cfg.urgentThreshold ≤ s.fouling.index ∧ s.fouling.stale = false
    let routine : Prop :=
      ((if s.conds.surge then x.cfg.surgeThreshold else x.cfg.washThreshold) ≤ s.fouling.index ∧ s.fouling.stale = false)
        ∨ s.screen.intervalDue = true
    let claims (k : ClaimClass) (t : State) : Prop :=
      exec .gapTimerExpiry s = .next t ∧ t.screen.wash = .claiming ∧ t.screen.tag = (s.screen.tag + 1) % 16 ∧ t.screen.cls = k ∧
      t.screen.completed = 0 ∧ t.screen.gapTimer = none ∧ t.screen.drive = driveChoice t ∧ driveMoves x s t ∧
      (s.link.tx ≠ .mute →
        let w := if s.conds.surge then x.cfg.stormSet else x.cfg.routineSet
        handedOver (.claim ((s.screen.tag + 1) % 16) k (w.cycles * w.period)) t ∧ handedOver .status t) ∧
      t = { s with screen := t.screen, link := t.link }
    (s.screen.wash ≠ .idle ∨ s.loader.phase ≠ .operating ∨ blocked ∨ (¬urgent ∧ (¬routine ∨ s.ladder.stage = .isolated)) →
      exec .gapTimerExpiry s = .next { s with screen := { s.screen with gapTimer := none } }) ∧
    (s.screen.wash = .idle → s.loader.phase = .operating → ¬blocked → urgent → ∃ t, claims .urgent t) ∧
    (s.screen.wash = .idle → s.loader.phase = .operating → ¬blocked → ¬urgent → routine → s.ladder.stage ≠ .isolated →
      ∃ t, claims .routine t)

/-- CYCLE_TIMER_EXPIRY: the count rises; compare A turns SPRAY on; compare B turns it off, counts a cycle, takes the set in force into
the working copy, and begins a fresh cycle or completes the wash with a RELEASE. The target moves on by one period from the target
before it, at the start of a fresh cycle too, so that the timer does not drift. -/
def Obligations.CycleTimerRunsTheWash : Prop :=
  ∀ (s : State) (x : Ctx) (d : Clock), ctx? s = some x → s.screen.cycleTimer = some d → reached s.clock d = true →
    let n := s.screen.cycleCount + 1
    let w := washSetInForce x.cfg s
    (n ≠ s.screen.working.sprayPoint → n ≠ s.screen.working.period →
      exec .cycleTimerExpiry s =
        .next { s with screen := { s.screen with cycleCount := n, cycleTimer := some (d + ms 100) } }) ∧
    (n = s.screen.working.sprayPoint → n ≠ s.screen.working.period → s.screen.spray = false →
      exec .cycleTimerExpiry s =
        .next { s with screen := { s.screen with
          cycleCount := n, cycleTimer := some (d + ms 100), spray := true,
          headerTimer := if s.lines.header then s.screen.headerTimer
                         else some (s.clock + ms (x.cfg.headerDelay * 1000)) } }) ∧
    (n ≠ s.screen.working.sprayPoint → n = s.screen.working.period → s.screen.completed + 1 < w.cycles →
      exec .cycleTimerExpiry s =
        .next { s with screen := { s.screen with
          cycleCount := 0, cycleTimer := some (d + ms 100), completed := s.screen.completed + 1, working := w,
          spray := decide (w.sprayPoint = 0),
          headerTimer := if w.sprayPoint = 0 ∧ s.lines.header = false then some (s.clock + ms (x.cfg.headerDelay * 1000))
                         else none } }) ∧
    (n ≠ s.screen.working.sprayPoint → n = s.screen.working.period → w.cycles ≤ s.screen.completed + 1 →
      s.screen.wash = .washing →
      ∃ t, exec .cycleTimerExpiry s = .next t ∧ t.screen.wash = .releasing ∧ t.screen.spray = false ∧
        t.screen.headerTimer = none ∧ t.screen.cycleTimer = none ∧ t.screen.cycleCount = 0 ∧
        t.screen.completed = s.screen.completed + 1 ∧ t.screen.drive = driveChoice t ∧ driveMoves x s t ∧ t.screen.gapTimer = s.screen.gapTimer ∧
        t.screen.intervalTimer = s.screen.intervalTimer ∧ t.screen.intervalDue = s.screen.intervalDue ∧
        (s.link.tx ≠ .mute → handedOver (.release s.screen.tag) t ∧ handedOver .status t) ∧
        t = { s with screen := t.screen, link := t.link })

/-- SHAFT_EDGE: an edge below 2^shaft_prescale counts; the edge that reaches it is captured while the drive is on, with the screen
period since the last capture, and restarts the stall window. -/
def Obligations.ShaftEdgesMeasureTheScreen : Prop :=
  ∀ (s : State) (x : Ctx), ctx? s = some x →
    (s.screen.prescale + 1 < 2 ^ x.cfg.shaftPrescale →
      exec .shaftEdge s = .next { s with screen := { s.screen with prescale := s.screen.prescale + 1 } }) ∧
    (2 ^ x.cfg.shaftPrescale ≤ s.screen.prescale + 1 → s.screen.drive = .off →
      exec .shaftEdge s = .next { s with screen := { s.screen with prescale := 0 } }) ∧
    (2 ^ x.cfg.shaftPrescale ≤ s.screen.prescale + 1 → s.screen.drive ≠ .off →
      exec .shaftEdge s = .next { s with screen := { s.screen with
        prescale := 0, lastCapture := some s.clock,
        period := (match s.screen.lastCapture with
                   | some l => min (s.clock - l).toNat 65535
                   | none => s.screen.period),
        stallTimer := some (s.clock + ms
          ((if s.screen.drive = .fast then x.cfg.stallFast else x.cfg.stallSlow) * 100)) } })

/-- STALL_TIMER_EXPIRY: SCREEN STALL rises, the drive goes OFF, the wash is aborted by its state, and alarm 13 rises. The gap, interval
and retry timers stand. -/
def Obligations.StallStopsTheScreen : Prop :=
  ∀ (s : State) (x : Ctx) (d : Clock), ctx? s = some x → s.screen.stallTimer = some d → reached s.clock d = true →
    s.conds.screenStall = false →
    ∃ t, exec .stallTimerExpiry s = .next t ∧
      t.conds = { s.conds with screenStall := true } ∧ t.screen.drive = .off ∧ t.screen.stallTimer = none ∧
      (alarmEnabled x.cfg 12 = true → alarmState s .screenStall = .normal → alarmState t .screenStall = .unack) ∧
      (∀ a : Alarm, a ≠ .screenStall → alarmState t a = alarmState s a) ∧
      (s.screen.wash = .idle ∨ s.screen.wash = .releasing → t.screen.wash = s.screen.wash) ∧
      (s.screen.wash = .waiting ∨ s.screen.wash = .washing ∨ s.screen.wash = .yielded →
        t.screen.wash = .releasing ∧ t.screen.spray = false ∧ t.screen.headerTimer = none ∧ t.screen.cycleTimer = none ∧
        t.screen.cycleCount = 0 ∧ (s.link.tx ≠ .mute → handedOver (.release s.screen.tag) t)) ∧
      (s.screen.wash = .claiming → (∃ k n, .claim s.screen.tag k n ∈ s.link.queue) →
        t.screen.wash = .idle ∧ ¬∃ k n, .claim s.screen.tag k n ∈ t.link.queue) ∧
      (s.screen.wash = .claiming → (¬∃ k n, .claim s.screen.tag k n ∈ s.link.queue) →
        t.screen.wash = .releasing ∧ (s.link.tx ≠ .mute → handedOver (.release s.screen.tag) t)) ∧
      t.screen.gapTimer = s.screen.gapTimer ∧ t.screen.intervalTimer = s.screen.intervalTimer ∧
      t.screen.retryTimer = s.screen.retryTimer ∧ t.screen.tag = s.screen.tag ∧ t.screen.cls = s.screen.cls ∧
      t = { s with screen := t.screen, conds := t.conds, alarms := t.alarms, link := t.link }

/-- The header supervision: while SPRAY is on an opening of HEADER starts the header timer and a closing stops it; its expiry raises
WASH WATER FAIL, aborts the wash and starts the retry timer, whose expiry ends the condition and moves its alarm. Before LISTENING entry
and in HALTED the line alone moves. -/
def Obligations.HeaderSupervisionAbortsAndRetries : Prop :=
  ∀ s : State,
    (s.lines.header = true → ctx? s = none → exec .headerOpens s = .next { s with lines := { s.lines with header := false } }) ∧
    (s.lines.header = false → ctx? s = none → exec .headerCloses s = .next { s with lines := { s.lines with header := true } }) ∧
    ∀ x : Ctx, ctx? s = some x →
      (s.lines.header = true → s.screen.spray = true →
        exec .headerOpens s = .next { s with
          lines := { s.lines with header := false },
          screen := { s.screen with headerTimer := some (s.clock + ms (x.cfg.headerDelay * 1000)) } }) ∧
      (s.lines.header = true → s.screen.spray = false →
        exec .headerOpens s = .next { s with lines := { s.lines with header := false } }) ∧
      (s.lines.header = false →
        exec .headerCloses s = .next { s with
          lines := { s.lines with header := true }, screen := { s.screen with headerTimer := none } }) ∧
      ∀ d : Clock, reached s.clock d = true →
        (s.screen.headerTimer = some d → s.conds.washWaterFail = false →
          ∃ t, exec .headerTimerExpiry s = .next t ∧
            t.conds = { s.conds with washWaterFail := true } ∧
            t.screen.retryTimer = some (s.clock + ms (x.cfg.washRetry * 60000)) ∧ t.screen.headerTimer = none ∧
            (alarmEnabled x.cfg 13 = true → alarmState s .washWaterFail = .normal → alarmState t .washWaterFail = .unack) ∧
            (s.screen.wash = .washing →
              t.screen.wash = .releasing ∧ t.screen.spray = false ∧ t.screen.cycleTimer = none ∧ t.screen.drive = driveChoice t ∧
              (s.link.tx ≠ .mute → handedOver (.release s.screen.tag) t)) ∧
            (s.screen.wash = .idle ∨ s.screen.wash = .releasing → t.screen.wash = s.screen.wash) ∧
            t = { s with screen := t.screen, conds := t.conds, alarms := t.alarms, link := t.link }) ∧
        (s.screen.retryTimer = some d →
          ∃ t, exec .retryTimerExpiry s = .next t ∧
            t.screen = { s.screen with retryTimer := none } ∧ t.conds = { s.conds with washWaterFail := false } ∧
            (∀ a : Alarm, a ≠ .washWaterFail ∨ s.conds.washWaterFail = false → alarmState t a = alarmState s a) ∧
            (s.conds.washWaterFail = true → alarmEnabled x.cfg 13 = true →
              (alarmState s .washWaterFail = .unack → alarmState t .washWaterFail = .returned) ∧
              (alarmState s .washWaterFail = .acked → alarmState t .washWaterFail = .normal)) ∧
            t = { s with screen := t.screen, conds := t.conds, alarms := t.alarms, link := t.link })

/-! ### The duty ranker -/

/-- DUTY_TIMER_EXPIRY, steps 1 to 4: the own score, the counts, N_target and the ranking, from the own bay and the PRESENT peers. The
score of a candidate is the hours, fouling and margin terms, less the allowance while RUNNING; else it is 1023. The candidates stand in
order of score and tie order, the running non-candidates behind them by tie order. ELIGIBLE, STARTABLE, the demand, rotation and tide
cap in force, the views of the bays and their sorting are written out before it. A peer that reports ELIGIBLE in LOCKED or FAILED with
RUN FEEDBACK counts both in U and as a candidate: the model's choice (log 16). -/
def Obligations.DutyEvaluationRanksTheBays : Prop :=
  ∀ (s : State) (x : Ctx) (d : Clock), ctx? s = some x → s.duty.timer = some d → reached s.clock d = true →
    (eligible s = true ↔ s.pump.state ≠ .locked ∧ s.pump.state ≠ .tripped ∧ s.pump.state ≠ .failed ∧
      s.front.inner.state = .good ∧ s.conds.screenBlocked = false ∧ s.loader.phase = .operating ∧ s.conds.bayConflict = false) ∧
    (startable x.cfg s = true ↔ eligible s = true ∧ s.pump.state = .stopped ∧ startsInLastHour s < x.cfg.startLimit ∧
      s.pump.minStopTimer = none ∧ s.conds.suctionLow = false) ∧
    startsInLastHour s = (Finset.univ.filter fun i : Fin 6 => s.pump.ring[i] ≠ none).card ∧
    (countedRunning s = true ↔ s.pump.state = .starting ∨ s.pump.state = .running ∨ s.lines.run = true) ∧
    runHours s = min (s.pump.runMinutes / 60) 65535 ∧
    demandInForce x.cfg s = (if s.order.heard then s.order.demand else x.cfg.defaultDemand) ∧
    rotationInForce s = (if s.order.heard then s.order.rotation else 0) ∧
    tideCap x.cfg s = (if s.conds.lowLow then x.cfg.capLowLow
                       else if s.conds.low = true ∨ s.tide.valid = false then x.cfg.capLow else 12) ∧
    (∀ b : Bay, ∀ r ≤ 11, (tieOrder r b : Int) = ((bayNumber b : Int) - 1 - r) % 12) ∧
    (∀ (b : Bay) (r : Report), presentPeer x s b = some r ↔
      b ≠ x.bay ∧ s.peers[b].presence = .present ∧ r = s.peers[b].report) ∧
    (∀ n, ownView x n s = { bay := x.bay, running := countedRunning s, eligible := eligible s, startable := startable x.cfg s,
                            state := s.pump.state, feedback := s.lines.run, hours := runHours s, score := n }) ∧
    peerViews x s = ((List.finRange 12).filterMap fun b =>
      if b ≠ x.bay ∧ s.peers[b].presence = .present then
        let r := s.peers[b].report
        some { bay := b, eligible := r.eligible, startable := r.startable, state := r.pumpState, feedback := r.runFeedback,
               running := decide (r.pumpState = .starting ∨ r.pumpState = .running) || r.runFeedback,
               hours := r.runHours, score := r.score }
      else none) ∧
    (∀ v : BayView,
      (isCandidate v = true ↔ v.eligible = true ∧ (v.running = true ∨ v.startable = true)) ∧
      (isUncommanded v = true ↔ (v.state = .locked ∨ v.state = .failed) ∧ v.feedback = true) ∧
      (isRunningNonCandidate v = true ↔ v.running = true ∧ isCandidate v = false ∧ isUncommanded v = false)) ∧
    ∃ t, exec .dutyTimerExpiry s = .next t ∧ t.duty.timer = some (d + ms (x.cfg.dutyInterval * 1000)) ∧
      (let own := eligible s && (countedRunning s || startable x.cfg s)
       (own = false → t.duty.score = 1023) ∧
       (own = true → ∃ hmin ≤ runHours s,
         (∀ v ∈ peerViews x s, isCandidate v = true → hmin ≤ v.hours) ∧
         (hmin = runHours s ∨ ∃ v ∈ peerViews x s, isCandidate v = true ∧ v.hours = hmin) ∧
         t.duty.score =
           min (runHours s - hmin) 255
             + s.fouling.index * (if s.fouling.swarm then 2 * x.cfg.foulingWeight else x.cfg.foulingWeight) / 4
             + (x.cfg.marginRef - min (s.front.inner.level - x.cfg.pumpStopLevel).toNat x.cfg.marginRef) / 16
             - (if s.pump.state = .running then x.cfg.runAllowance else 0))) ∧
      (let views := ownView x t.duty.score s :: peerViews x s
       let candidates := views.filter isCandidate
       let others := views.filter isRunningNonCandidate
       let tie (v : BayView) := tieOrder (rotationInForce s) v.bay
       t.duty.nTarget = min (min (demandInForce x.cfg s) (tideCap x.cfg s) - (views.filter isUncommanded).length) candidates.length ∧
       t.duty.running = (candidates.filter BayView.running).length ∧
       t.duty.stopCount = (candidates.filter BayView.running).length + others.length ∧
       t.duty.candidates.Perm (candidates.map BayView.bay) ∧
       (∃ l m : List BayView, l.Perm candidates ∧ m.Perm others ∧ t.duty.ranking = (l ++ m).map BayView.bay ∧
         l.Pairwise (fun a b => a.score < b.score ∨ (a.score = b.score ∧ tie a < tie b)) ∧
         m.Pairwise (fun a b => tie a < tie b)) ∧
       (∀ n, t.duty.ownRank = some n ↔ 1 ≤ n ∧ t.duty.ranking[n - 1]? = some x.bay)) ∧
      t = { s with duty := t.duty, fouling := t.fouling, pump := t.pump, conds := t.conds, alarms := t.alarms, link := t.link,
                   loader := t.loader }

/-- DUTY_TIMER_EXPIRY, steps 5 and 6: at most one hand-over. In STOPPED the first failing test records its cause, and a start wish moves
the pump to START_PENDING, unless a better peer is pending; in RUNNING a stop wish moves it to STOPPING; every other state keeps. A bay
is counted running, and a peer STARTING, by its present values or its report. -/
def Obligations.DutyEvaluationHandsOneWish : Prop :=
  ∀ (s t : State) (x : Ctx) (d : Clock), ctx? s = some x → s.duty.timer = some d → reached s.clock d = true →
    exec .dutyTimerExpiry s = .next t →
    (∀ b : Bay, runsInView x s b = true ↔
      (b = x.bay ∧ (s.pump.state = .starting ∨ s.pump.state = .running ∨ s.lines.run = true)) ∨
      (b ≠ x.bay ∧ s.peers[b].presence = .present ∧ (s.peers[b].report.pumpState = .starting ∨
        s.peers[b].report.pumpState = .running ∨ s.peers[b].report.runFeedback = true))) ∧
    (peerStarting x s = true ↔
      ∃ b : Bay, b ≠ x.bay ∧ s.peers[b].presence = .present ∧ s.peers[b].report.pumpState = .starting) ∧
    let linked : Prop := s.loader.phase = .operating ∧ s.ladder.stage = .linked
    let beyond : Prop := ∃ b ∈ t.duty.ranking.drop t.duty.nTarget, runsInView x s b = true
    let needed : Prop := ∃ n, t.duty.ownRank = some n ∧ n ≤ t.duty.nTarget ∧ (t.duty.running < t.duty.nTarget ∨ beyond)
    let better : Prop := ∃ b r, presentPeer x s b = some r ∧ r.pumpState = .startPending ∧
      (r.score < t.duty.score ∨
        (r.score = t.duty.score ∧ tieOrder (rotationInForce s) b < tieOrder (rotationInForce s) x.bay))
    let refused (c : Cause) : Prop := t.pump = { s.pump with cause := c }
    (s.pump.state = .stopped →
      (¬linked → refused .link) ∧
      (linked → eligible s = false → refused .notEligible) ∧
      (linked → eligible s = true →
        (x.cfg.startLimit ≤ startsInLastHour s → refused .startLimit) ∧
        (startsInLastHour s < x.cfg.startLimit →
          (s.pump.minStopTimer.isSome = true → refused .minStop) ∧
          (s.pump.minStopTimer = none →
            (s.conds.suctionLow = true → refused .suction) ∧
            (s.conds.suctionLow = false →
              (¬needed → refused .none) ∧
              (needed → peerStarting x s = true → refused .stagger) ∧
              (needed → peerStarting x s = false → ¬better →
                t.pump.state = .startPending ∧ t.pump.cause = s.pump.cause ∧
                t.pump.guardTimer = some (s.clock + ms (x.cfg.startGuard * 1000)) ∧
                (s.link.tx ≠ .mute → handedOver .status t)) ∧
              (needed → peerStarting x s = false → better →
                t.pump.state = .stopped ∧ t.pump.cause = .betterStarter ∧ t.pump.guardTimer = none ∧
                t.pump.minStopTimer = none)))))) ∧
    (let wished : Prop := linked ∧ s.pump.minRunTimer = none ∧ t.duty.nTarget < t.duty.stopCount ∧
       (t.duty.ranking.filter (runsInView x s)).getLast? = some x.bay ∧ s.conds.bayConflict = false
     s.pump.state = .running →
       (wished → t.pump.state = .stopping ∧ t.pump.pulse = some .stop ∧
         t.pump.pulseTimer = some (s.clock + ms (x.cfg.stopPulse * 100)) ∧
         t.pump.feedbackTimer = some (s.clock + ms (x.cfg.stopTimeout * 1000))) ∧
       (¬wished → t.pump = s.pump)) ∧
    (s.pump.state ≠ .stopped → s.pump.state ≠ .running → t.pump = s.pump ∧ t.fouling = s.fouling ∧ t.link = s.link)

/-! ### The pump controller -/

/-- GUARD_TIMER_EXPIRY in START_PENDING: a PRESENT peer in STARTING withdraws the start with STAGGER; otherwise the pump is started: a
START pulse, the start recorded in the ring, the feedback timer, and STARTING, or STOPPING at once under SUCTION LOW or SCREEN
BLOCKED. -/
def Obligations.GuardExpiryStartsThePump : Prop :=
  ∀ (s : State) (x : Ctx) (d : Clock), ctx? s = some x → s.pump.guardTimer = some d → reached s.clock d = true →
    s.pump.state = .startPending →
    ∃ t, exec .guardTimerExpiry s = .next t ∧ t.pump.guardTimer = none ∧ t.pump.minStopTimer = s.pump.minStopTimer ∧
      ((∃ b r, presentPeer x s b = some r ∧ r.pumpState = .starting) →
        t.pump.state = .stopped ∧ t.pump.cause = .stagger ∧ t.pump.ring = s.pump.ring ∧ t.pump.pulse = s.pump.pulse) ∧
      ((¬∃ b r, presentPeer x s b = some r ∧ r.pumpState = .starting) →
        t.pump.cause = .none ∧ t.pump.ring = s.pump.ring.set s.pump.pointer (some s.clock) ∧
        t.pump.pointer = s.pump.pointer + 1 ∧
        t.pump.ageTimer = (if ∀ i : Fin 6, s.pump.ring[i] = none then some (s.clock + ms 3600000) else s.pump.ageTimer) ∧
        (s.conds.suctionLow = false → s.conds.screenBlocked = false →
          t.pump.state = .starting ∧ t.pump.pulse = some .start ∧
          t.pump.pulseTimer = some (s.clock + ms (x.cfg.startPulse * 100)) ∧
          t.pump.feedbackTimer = some (s.clock + ms (x.cfg.startTimeout * 1000)) ∧
          (s.lines.run = false → t.fouling.runningMark = true ∧
            t.fouling.settleTimer = some (s.clock + ms (x.cfg.settleTime * 1000)) ∧
            t.pump.minuteTimer = some (s.clock + ms (60000 - s.pump.minuteAcc)))) ∧
        (s.conds.suctionLow = true ∨ s.conds.screenBlocked = true →
          t.pump.state = .stopping ∧ t.pump.pulse = some .stop)) ∧
      (s.link.tx ≠ .mute → handedOver .status t) ∧
      t = { s with fouling := t.fouling, pump := t.pump, conds := t.conds, alarms := t.alarms, link := t.link, loader := t.loader }

/-- START_TIMEOUT, STOP_TIMEOUT and PULSE_TIMER_EXPIRY: a start with no feedback fails with a STOP pulse; a stop with RUN still closed
fails, and with RUN open ends in STOPPED with min_stop ahead; the end of a pulse turns it off, and ends a stop whose RUN is open. A
timeout met in another state has no effect. At the end of counted running the elapsed part of the minute is kept, and a record write is
requested. -/
def Obligations.FeedbackAndPulseTimersRunOut : Prop :=
  ∀ (s : State) (x : Ctx) (d : Clock), ctx? s = some x → reached s.clock d = true →
    let minStop := some (s.clock + ms (x.cfg.minStop * 60000))
    (s.pump.state ≠ .starting → exec .startTimeout s = .next s) ∧
    (s.pump.state ≠ .stopping → exec .stopTimeout s = .next s) ∧
    (s.pump.state = .starting → s.pump.feedbackTimer = some d →
      ∃ t, exec .startTimeout s = .next t ∧ t.pump.state = .failed ∧ t.conds.pumpFail = true ∧ t.pump.pulse = some .stop ∧
        t.pump.pulseTimer = some (s.clock + ms (x.cfg.stopPulse * 100)) ∧ t.pump.feedbackTimer = none ∧
        t.pump.guardTimer = none ∧ t.pump.minRunTimer = none ∧ t.pump.minStopTimer = s.pump.minStopTimer ∧
        t.pump.ring = s.pump.ring ∧ t.pump.cause = s.pump.cause ∧
        (s.lines.run = false → t.fouling.runningMark = false ∧ t.pump.minuteTimer = none ∧ minutesKept s t ∧ endRequested s t) ∧
        t = { s with fouling := t.fouling, pump := t.pump, conds := t.conds, alarms := t.alarms, link := t.link,
                     loader := t.loader }) ∧
    (s.pump.state = .stopping → s.pump.feedbackTimer = some d →
      ∃ t, exec .stopTimeout s = .next t ∧ t.pump.feedbackTimer = none ∧ t.pump.pulse = s.pump.pulse ∧
        (s.lines.run = true → t.pump.state = .failed ∧ t.conds.pumpFail = true ∧ t.pump.minStopTimer = s.pump.minStopTimer) ∧
        (s.lines.run = false → t.pump.state = .stopped ∧ t.pump.minStopTimer = minStop) ∧
        t.pump.ring = s.pump.ring ∧ t.pump.cause = s.pump.cause ∧ t.fouling = s.fouling ∧ t.loader = s.loader ∧
        t = { s with pump := t.pump, conds := t.conds, alarms := t.alarms, link := t.link }) ∧
    (s.pump.pulseTimer = some d →
      (s.pump.state = .stopping → s.pump.pulse = some .stop → s.lines.run = false →
        ∃ t, exec .pulseTimerExpiry s = .next t ∧ t.pump.state = .stopped ∧ t.pump.pulse = none ∧ t.pump.pulseTimer = none ∧
          t.pump.feedbackTimer = none ∧ t.pump.minStopTimer = minStop ∧ t.fouling = s.fouling ∧ t.loader = s.loader ∧
          t = { s with pump := t.pump, conds := t.conds, alarms := t.alarms, link := t.link }) ∧
      (s.pump.state ≠ .stopping ∨ s.pump.pulse ≠ some .stop ∨ s.lines.run = true →
        exec .pulseTimerExpiry s = .next { s with pump := { s.pump with pulse := none, pulseTimer := none } }))

/-- The timers of the four spells only stop at their expiry: the settle hold, min_run and min_stop, and the wash interval, which sets
its due mark. START_RING_AGE_EXPIRY empties the oldest filled slot, the first filled one from the pointer on, and sets the age timer one
hour after the next oldest start, or stops it; the count of the last hour falls by one. MINUTE_TIMER_EXPIRY counts a minute, saturating,
and a whole multiple of 60 requests a record write. A request begins WRITE ENABLE at once, or is held pending while a write runs and in
LISTENING with a lost record. -/
def Obligations.SpellsEndStartsAgeAndMinutesCount : Prop :=
  ∀ (s : State) (x : Ctx) (d : Clock), ctx? s = some x → reached s.clock d = true →
    (s.fouling.settleTimer = some d →
      exec .settleTimerExpiry s = .next { s with fouling := { s.fouling with settleTimer := none } }) ∧
    (s.pump.minRunTimer = some d → exec .minRunExpiry s = .next { s with pump := { s.pump with minRunTimer := none } }) ∧
    (s.pump.minStopTimer = some d → exec .minStopExpiry s = .next { s with pump := { s.pump with minStopTimer := none } }) ∧
    (s.screen.intervalTimer = some d →
      exec .intervalTimerExpiry s = .next { s with screen := { s.screen with intervalTimer := none, intervalDue := true } }) ∧
    (s.pump.ageTimer = some d → ∀ k : Fin 6, (s.pump.ring[s.pump.pointer + k]).isSome = true →
      (∀ j : Fin 6, j < k → s.pump.ring[s.pump.pointer + j] = none) →
      ∃ t, exec .startRingAgeExpiry s = .next t ∧ t.pump.ring = s.pump.ring.set (s.pump.pointer + k : Fin 6) none ∧
        startsInLastHour t + 1 = startsInLastHour s ∧
        ((∀ j : Fin 6, k < j → s.pump.ring[s.pump.pointer + j] = none) → t.pump.ageTimer = none) ∧
        (∀ (n : Fin 6) (v : Clock), k < n → s.pump.ring[s.pump.pointer + n] = some v →
          (∀ j : Fin 6, k < j → j < n → s.pump.ring[s.pump.pointer + j] = none) →
          t.pump.ageTimer = some (v + ms 3600000)) ∧
        t = { s with pump := { s.pump with ring := t.pump.ring, ageTimer := t.pump.ageTimer } }) ∧
    (s.pump.minuteTimer = some d →
      ∃ t, exec .minuteTimerExpiry s = .next t ∧
        t.pump = { s.pump with
          runMinutes := min (s.pump.runMinutes + 1) (max s.pump.runMinutes 16777215), minuteAcc := 0,
          minuteTimer := some (d + ms 60000) } ∧
        (s.pump.runMinutes < 16777215 → (s.pump.runMinutes + 1) % 60 = 0 → writeRequested false s t) ∧
        ((s.pump.runMinutes + 1) % 60 ≠ 0 → t.loader = s.loader) ∧
        t = { s with pump := t.pump, loader := t.loader })

/-- RUN_CLOSES: in STOPPED and START_PENDING the pump fails, in STARTING it is RUNNING with min_run ahead, and every other state keeps.
A bay not counted running before is counted from then on. -/
def Obligations.RunClosureIsFeedback : Prop :=
  ∀ s : State, s.lines.run = false →
    (ctx? s = none → exec .runCloses s = .next { s with lines := { s.lines with run := true } }) ∧
    ∀ x : Ctx, ctx? s = some x →
      ∃ t, exec .runCloses s = .next t ∧ t.lines = { s.lines with run := true } ∧
        (s.pump.state = .stopped ∨ s.pump.state = .startPending →
          t.pump.state = .failed ∧ t.conds.pumpFail = true ∧ t.pump.guardTimer = none) ∧
        (s.pump.state = .starting → s.conds.suctionLow = false → s.conds.screenBlocked = false →
          t.pump.state = .running ∧ t.pump.minRunTimer = some (s.clock + ms (x.cfg.minRun * 60000)) ∧
          t.pump.feedbackTimer = none ∧ t.pump.pulse = s.pump.pulse ∧ t.fouling = s.fouling ∧
          t.pump.minuteTimer = s.pump.minuteTimer) ∧
        (s.pump.state = .starting → s.conds.suctionLow = true ∨ s.conds.screenBlocked = true →
          t.pump.state = .stopping ∧ t.pump.pulse = some .stop) ∧
        (s.pump.state = .running ∨ s.pump.state = .stopping ∨ s.pump.state = .tripped ∨ s.pump.state = .failed ∨
            s.pump.state = .locked →
          t.pump.state = s.pump.state ∧ t.conds = s.conds ∧ t.link = s.link) ∧
        (countedRunning s = false →
          t.fouling.runningMark = true ∧ t.fouling.settleTimer = some (s.clock + ms (x.cfg.settleTime * 1000)) ∧
          t.pump.minuteTimer = some (s.clock + ms (60000 - s.pump.minuteAcc))) ∧
        t.pump.minStopTimer = s.pump.minStopTimer ∧ t.pump.ring = s.pump.ring ∧
        t = { s with lines := t.lines, fouling := t.fouling, pump := t.pump, conds := t.conds, alarms := t.alarms,
                     link := t.link, loader := t.loader }

/-- RUN_OPENS: in RUNNING the pump fails; in STOPPING it is STOPPED once its STOP pulse has ended; every other state keeps. A bay that
is then no longer counted running starts the settle hold, stops its minute timer and requests a record write; the elapsed part of the
minute is kept, and a whole one counted. The request begins WRITE ENABLE at once, or is held pending while a write runs and in LISTENING
with a lost record. -/
def Obligations.RunOpeningEndsTheFeedback : Prop :=
  ∀ s : State, s.lines.run = true →
    (ctx? s = none → exec .runOpens s = .next { s with lines := { s.lines with run := false } }) ∧
    ∀ x : Ctx, ctx? s = some x →
      ∃ t, exec .runOpens s = .next t ∧ t.lines = { s.lines with run := false } ∧
        (s.pump.state = .running → t.pump.state = .failed ∧ t.conds.pumpFail = true ∧ t.pump.minRunTimer = none) ∧
        (s.pump.state = .stopping → s.pump.pulse = some .stop → t.pump.state = .stopping ∧ t.link = s.link) ∧
        (s.pump.state = .stopping → s.pump.pulse ≠ some .stop →
          t.pump.state = .stopped ∧ t.pump.feedbackTimer = none ∧
          t.pump.minStopTimer = some (s.clock + ms (x.cfg.minStop * 60000))) ∧
        (s.pump.state ≠ .running → s.pump.state ≠ .stopping → t.pump.state = s.pump.state ∧ t.conds = s.conds ∧ t.link = s.link) ∧
        (s.pump.state ≠ .starting →
          t.fouling = { s.fouling with
            runningMark := false, settleTimer := some (s.clock + ms (x.cfg.settleTime * 1000)) } ∧
          t.pump.minuteTimer = none ∧ minutesKept s t ∧ endRequested s t) ∧
        (s.pump.state = .starting → t = { s with lines := { s.lines with run := false } }) ∧
        s.pump.runMinutes ≤ t.pump.runMinutes ∧ t.pump.runMinutes ≤ s.pump.runMinutes + 1 ∧ t.pump.ring = s.pump.ring ∧
        t = { s with lines := t.lines, fouling := t.fouling, pump := t.pump, conds := t.conds, alarms := t.alarms,
                     link := t.link, loader := t.loader }

/-- TRIP_CLOSES trips the pump from every state but LOCKED, cuts a pulse and stops the supervision; TRIP_OPENS leaves TRIPPED, for
FAILED with RUN closed and for STOPPED with RUN open. -/
def Obligations.TripContactRulesThePump : Prop :=
  ∀ s : State,
    (ctx? s = none → s.lines.trip = false → exec .tripCloses s = .next { s with lines := { s.lines with trip := true } }) ∧
    (ctx? s = none → s.lines.trip = true → exec .tripOpens s = .next { s with lines := { s.lines with trip := false } }) ∧
    ∀ x : Ctx, ctx? s = some x →
      (s.lines.trip = false → s.pump.state = .locked →
        exec .tripCloses s = .next { s with lines := { s.lines with trip := true } }) ∧
      (s.lines.trip = false → s.pump.state ≠ .locked → s.pump.state ≠ .tripped →
        ∃ t, exec .tripCloses s = .next t ∧ t.lines = { s.lines with trip := true } ∧ t.pump.state = .tripped ∧
          t.conds = { s.conds with pumpTrip := true, pumpFail := false } ∧ t.pump.pulse = none ∧ t.pump.pulseTimer = none ∧
          t.pump.guardTimer = none ∧ t.pump.feedbackTimer = none ∧ t.pump.minRunTimer = none ∧
          t.pump.minStopTimer = s.pump.minStopTimer ∧ t.pump.ring = s.pump.ring ∧ t.pump.cause = s.pump.cause ∧
          (s.link.tx ≠ .mute → handedOver .status t) ∧
          t = { s with lines := t.lines, fouling := t.fouling, pump := t.pump, conds := t.conds, alarms := t.alarms,
                       link := t.link, loader := t.loader }) ∧
      (s.lines.trip = true → s.pump.state ≠ .tripped →
        exec .tripOpens s = .next { s with lines := { s.lines with trip := false } }) ∧
      (s.lines.trip = true → s.pump.state = .tripped →
        ∃ t, exec .tripOpens s = .next t ∧ t.lines = { s.lines with trip := false } ∧ t.conds.pumpTrip = false ∧
          (s.lines.run = true → t.pump.state = .failed ∧ t.conds.pumpFail = true ∧ t.pump.minStopTimer = s.pump.minStopTimer) ∧
          (s.lines.run = false → t.pump.state = .stopped ∧ t.conds.pumpFail = false ∧
            t.pump.minStopTimer = some (s.clock + ms (x.cfg.minStop * 60000))) ∧
          t.fouling = s.fouling ∧ t.loader = s.loader ∧ t.pump.ring = s.pump.ring ∧
          t = { s with lines := t.lines, pump := t.pump, conds := t.conds, alarms := t.alarms, link := t.link })

/-- LOCAL_CLOSES locks the pump in every state and cuts a pulse; LOCAL_OPENS leaves LOCKED for the state of the contacts: TRIPPED,
RUNNING with min_run counted as elapsed, or STOPPED. -/
def Obligations.LocalSelectorLocksThePump : Prop :=
  ∀ s : State,
    (ctx? s = none → s.lines.localSel = false →
      exec .localCloses s = .next { s with lines := { s.lines with localSel := true } }) ∧
    (ctx? s = none → s.lines.localSel = true →
      exec .localOpens s = .next { s with lines := { s.lines with localSel := false } }) ∧
    ∀ x : Ctx, ctx? s = some x →
      (s.lines.localSel = false → s.pump.state ≠ .locked →
        ∃ t, exec .localCloses s = .next t ∧ t.lines = { s.lines with localSel := true } ∧ t.pump.state = .locked ∧
          t.conds = { s.conds with pumpTrip := false, pumpFail := false } ∧ t.pump.pulse = none ∧ t.pump.pulseTimer = none ∧
          t.pump.guardTimer = none ∧ t.pump.feedbackTimer = none ∧ t.pump.minRunTimer = none ∧
          t.pump.minStopTimer = s.pump.minStopTimer ∧ t.pump.ring = s.pump.ring ∧
          t = { s with lines := t.lines, fouling := t.fouling, pump := t.pump, conds := t.conds, alarms := t.alarms,
                       link := t.link, loader := t.loader }) ∧
      (s.lines.localSel = true → s.pump.state = .locked →
        ∃ t, exec .localOpens s = .next t ∧ t.lines = { s.lines with localSel := false } ∧
          (s.lines.trip = true → t.pump.state = .tripped ∧ t.conds.pumpTrip = true) ∧
          (s.lines.trip = false → s.lines.run = true → s.conds.suctionLow = false → s.conds.screenBlocked = false →
            t.pump.state = .running ∧ t.pump.minRunTimer = none) ∧
          (s.lines.trip = false → s.lines.run = true → s.conds.suctionLow = true ∨ s.conds.screenBlocked = true →
            t.pump.state = .stopping ∧ t.pump.pulse = some .stop) ∧
          (s.lines.trip = false → s.lines.run = false →
            t.pump.state = .stopped ∧ t.pump.minStopTimer = some (s.clock + ms (x.cfg.minStop * 60000))) ∧
          t.fouling = s.fouling ∧ t.loader = s.loader ∧ t.pump.ring = s.pump.ring ∧
          t = { s with lines := t.lines, pump := t.pump, conds := t.conds, alarms := t.alarms, link := t.link }) ∧
      (s.lines.localSel = true → s.pump.state ≠ .locked →
        exec .localOpens s = .next { s with lines := { s.lines with localSel := false } })

/-! ### The annunciator -/

/-- An acknowledge from a rising edge of ACK moves every enabled entry by the table and leaves a disabled one, and ends FAILED, SCREEN
STALL and DUTY RECORD LOST, whose alarms then stand NORMAL; one STATUS is handed over when an entry has moved. The falling edge, an edge
that finds the line so, and every edge before LISTENING entry give none. -/
def Obligations.AcknowledgeMovesEveryEntry : Prop :=
  ∀ s : State,
    exec .ackFallingEdge s = .next { s with lines := { s.lines with ack := false } } ∧
    (s.lines.ack = true → exec .ackRisingEdge s = .next s) ∧
    (s.lines.ack = false → ctx? s = none → exec .ackRisingEdge s = .next { s with lines := { s.lines with ack := true } }) ∧
    ∀ x : Ctx, ctx? s = some x → s.lines.ack = false → PumpLaw s →
      ∃ t, exec .ackRisingEdge s = .next t ∧ t.lines = { s.lines with ack := true } ∧
        (∀ a : Alarm, alarmEnabled x.cfg a.index.val = false → alarmState t a = alarmState s a) ∧
        (∀ a : Alarm, alarmEnabled x.cfg a.index.val = true →
          a ≠ .pumpFail ∧ a ≠ .screenStall ∧ a ≠ .dutyRecordLost ∨ s.conds.get a = false →
          alarmState t a = (match alarmState s a with
                            | .normal => .normal
                            | .unack => .acked
                            | .acked => .acked
                            | .returned => .normal)) ∧
        (∀ a : Alarm, a = .pumpFail ∨ a = .screenStall ∨ a = .dutyRecordLost → alarmEnabled x.cfg a.index.val = true →
          s.conds.get a = true → t.conds.get a = false ∧
          (alarmState s a = .unack ∨ alarmState s a = .acked → alarmState t a = .normal)) ∧
        t.conds = { s.conds with pumpFail := false, screenStall := false, dutyRecordLost := false } ∧
        (s.pump.state ≠ .failed → t.pump = s.pump ∧ t.fouling = s.fouling ∧ t.loader = s.loader) ∧
        (s.pump.state = .failed → s.lines.run = false →
          t.pump.state = .stopped ∧ t.pump.minStopTimer = some (s.clock + ms (x.cfg.minStop * 60000))) ∧
        (s.pump.state = .failed → s.lines.run = true → s.conds.suctionLow = false → s.conds.screenBlocked = false →
          t.pump.state = .running ∧ t.pump.minRunTimer = none) ∧
        (s.pump.state = .failed → s.lines.run = true → s.conds.suctionLow = true ∨ s.conds.screenBlocked = true →
          t.pump.state = .stopping ∧ t.pump.pulse = some .stop) ∧
        (s.conds.screenStall = true → t.screen.drive = driveChoice t) ∧
        (s.conds.screenStall = false → t.screen = s.screen) ∧
        (t.alarms ≠ s.alarms → s.link.tx ≠ .mute → handedOver .status t) ∧
        t = { s with lines := t.lines, fouling := t.fouling, screen := t.screen, pump := t.pump, conds := t.conds,
                     alarms := t.alarms, link := t.link, loader := t.loader }

/-! ### The peer table -/

/-- AGEING_TIMER_EXPIRY ages the foreign entries, the order record and the isolation count. An entry that falls SILENT loses its claim
and its swarm lane; a change of stage hands a STATUS over, and LINK ISOLATED follows the stage; the change to ISOLATED leaves no foreign
claim, withdraws a pending start and aborts a wash of class ROUTINE by its state, the CLAIM that still waits being cancelled. -/
def Obligations.AgeingExpiryAgesTheViews : Prop :=
  ∀ (s : State) (x : Ctx) (d : Clock), LadderLaw s → ctx? s = some x → s.ageingTimer = some d → reached s.clock d = true →
    ∃ t, exec .ageingTimerExpiry s = .next t ∧ t.ageingTimer = some (d + ms (x.cfg.statusPeriod * 250)) ∧
      (∀ b : Bay, b = x.bay ∨ s.peers[b].presence = .empty → t.peers[b] = s.peers[b]) ∧
      (∀ b : Bay, b ≠ x.bay → s.peers[b].presence ≠ .empty →
        t.peers[b] = { s.peers[b] with
          age := min (s.peers[b].age + 1) 255,
          presence := if s.peers[b].presence = .present ∧ min (s.peers[b].age + 1) 255 = x.cfg.silentLimit then .silent
                      else s.peers[b].presence }) ∧
      (∀ b : Bay, s.peers[b].presence = .present → t.peers[b].presence = .silent →
        t.fouling.lanes[b] = { s.fouling.lanes[b] with invalidated := true } ∧ ∀ e ∈ t.claims.entries, e.bay ≠ b) ∧
      (∀ b : Bay, t.peers[b].presence = s.peers[b].presence → t.fouling.lanes[b] = s.fouling.lanes[b]) ∧
      t.order = { s.order with
        age := min (s.order.age + 1) 255,
        demandHeld := !s.order.heard ||
          decide (x.cfg.demandTimeout * 4 ≤ min (s.order.age + 1) 255 * x.cfg.statusPeriod) } ∧
      t.ladder.count = min (s.ladder.count + 1) 255 ∧
      t.ladder.stage = (if t.ladder.count < x.cfg.quietAfter then .linked
                        else if t.ladder.count < x.cfg.isolatedAfter then .quiet else .isolated) ∧
      t.conds.linkIsolated = decide (t.ladder.stage = .isolated) ∧
      (t.ladder.stage ≠ s.ladder.stage → s.link.tx ≠ .mute → handedOver .status t) ∧
      (t.ladder.stage = .isolated → s.ladder.stage ≠ .isolated → (∀ e ∈ t.claims.entries, e.bay = x.bay) ∧
        (s.pump.state = .startPending → t.pump.state = .stopped ∧ t.pump.cause = .link)) ∧
      (¬(t.ladder.stage = .isolated ∧ s.ladder.stage ≠ .isolated) → t.pump.state = s.pump.state ∧ t.pump.cause = s.pump.cause) ∧
      (t.ladder.stage = .isolated → s.ladder.stage ≠ .isolated → s.screen.cls = .routine →
        (s.screen.wash = .idle ∨ s.screen.wash = .releasing → t.screen.wash = s.screen.wash) ∧
        (s.screen.wash = .waiting ∨ s.screen.wash = .washing ∨ s.screen.wash = .yielded →
          t.screen.wash = .releasing ∧ t.screen.spray = false ∧ t.screen.cycleTimer = none ∧
          (s.link.tx ≠ .mute → handedOver (.release s.screen.tag) t)) ∧
        (s.screen.wash = .claiming → standingIn x s.claims.entries = .none → (s.link.tx = .idle → s.link.queue = []) →
          ((∃ k n, .claim s.screen.tag k n ∈ s.link.queue) →
            t.screen.wash = .idle ∧ ¬∃ k n, .claim s.screen.tag k n ∈ t.link.queue) ∧
          ((¬∃ k n, .claim s.screen.tag k n ∈ s.link.queue) →
            t.screen.wash = .releasing ∧ (s.link.tx ≠ .mute → handedOver (.release s.screen.tag) t)))) ∧
      (¬(t.ladder.stage = .isolated ∧ s.ladder.stage ≠ .isolated) ∨ s.screen.cls = .urgent →
        standingIn x t.claims.entries = standingIn x s.claims.entries → t.screen.wash = s.screen.wash) ∧
      t.fouling = { s.fouling with lanes := t.fouling.lanes } ∧
      t = { s with ageingTimer := t.ageingTimer, choices := t.choices, peers := t.peers, order := t.order, ladder := t.ladder,
                   fouling := t.fouling, claims := t.claims, screen := t.screen, pump := t.pump, conds := t.conds,
                   alarms := t.alarms, link := t.link, loader := t.loader }

/-- The second ageing expiry of LISTENING ends it: a lost record is made good by the median of the hours the PRESENT peers report, with
a record write, and the phase is OPERATING, with the wash interval begun, a STATUS handed over and DUTY RECORD LOST raised for a lost
record. The first expiry counts; in OPERATING the window, the phase and the mark stand. -/
def Obligations.ListeningEndsInOperating : Prop :=
  ∀ (s t : State) (x : Ctx) (d : Clock), ctx? s = some x → s.ageingTimer = some d → reached s.clock d = true →
    exec .ageingTimerExpiry s = .next t →
    (s.loader.phase = .listening → s.loader.window = 0 →
      t.loader = { s.loader with window := 1 } ∧ t.pump.runMinutes = s.pump.runMinutes ∧
      t.conds.dutyRecordLost = s.conds.dutyRecordLost) ∧
    (s.loader.phase = .listening → 1 ≤ s.loader.window →
      t.loader.phase = .operating ∧ t.loader.mark = .good ∧
      t.screen.intervalTimer = (if x.cfg.maxWashInterval = 0 then none
                                else some (s.clock + ms (x.cfg.maxWashInterval * 60000))) ∧
      (s.link.tx ≠ .mute → handedOver .status t) ∧ t.pump.minuteAcc = s.pump.minuteAcc ∧
      t.pump.minuteTimer = s.pump.minuteTimer ∧
      (s.loader.mark = .good → t.pump.runMinutes = s.pump.runMinutes ∧ t.conds.dutyRecordLost = s.conds.dutyRecordLost ∧
        t.loader.write = s.loader.write) ∧
      (s.loader.mark = .lost → t.conds.dutyRecordLost = true ∧
        (let hours := (List.finRange 12).filterMap fun b =>
           if b ≠ x.bay ∧ t.peers[b].presence = .present then some (t.peers[b].report.runHours : Int) else none
         (hours = [] → t.pump.runMinutes = 0) ∧ ∀ m, median hours = some m → (t.pump.runMinutes : Int) = 60 * m) ∧
        (s.loader.write = .idle → t.loader.write = .enable ∧ t.loader.spi = some .writeEnable ∧
          t.loader.writePending = false))) ∧
    (s.loader.phase = .operating → t.loader = s.loader ∧ t.pump.runMinutes = s.pump.runMinutes ∧
      t.conds.dutyRecordLost = s.conds.dutyRecordLost)

/-- STATUS_FRAME from a foreign bay: the ladder returns to LINKED. A report that passes the content check is stored whole, PRESENT with
age 0, after the removals of its RESTART flag; its wash state repairs the claim list, at the end of its class with the duration of the
own routine set; and a pending start gives way to it. A report that fails the check leaves the table, the list and the lanes. -/
def Obligations.StatusFrameIsStored : Prop :=
  ∀ (s : State) (x : Ctx) (f : Frame) (b : Bay), ClaimLaw s → ctx? s = some x → s.link.receiver ≠ .waitIdle → s.link.tx ≠ .send →
    frameValid f = true → f.kind = kindStatus → bayOfByte f.bay = some b → b ≠ x.bay →
    ∃ t, exec (.statusFrame f) s = .next t ∧ t.link.receiver = .waitIdle ∧ t.ladder = ⟨0, .linked⟩ ∧
      (decodeReport f.payload = none →
        t.peers = s.peers ∧ t.claims = s.claims ∧ t.fouling = s.fouling ∧ t.pump = s.pump ∧ t.screen = s.screen) ∧
      (∀ r, decodeReport f.payload = some r →
        t.peers = s.peers.set b { presence := .present, age := 0, report := r } ∧
        t.fouling = { s.fouling with
          lanes := if r.restart then s.fouling.lanes.set b { s.fouling.lanes[b] with invalidated := true } else s.fouling.lanes } ∧
        (let others := s.claims.entries.filter fun e => e.bay ≠ b
         let held : Prop := ∃ e ∈ s.claims.entries, e.bay = b ∧ e.tag = r.tag
         let duration := x.cfg.routineSet.cycles * x.cfg.routineSet.period
         let stands : Prop := r.wash = .waiting ∨ r.wash = .washing ∨ r.wash = .yielded
         (r.wash = .idle → t.claims.entries = regraded x others) ∧
         (r.wash = .claiming ∨ r.wash = .releasing →
           t.claims.entries = if r.restart then regraded x others else s.claims.entries) ∧
         (stands → r.restart = false → held → t.claims = s.claims) ∧
         (stands → r.restart = true ∨ ¬held → t.claims.entries = regraded x
           (match r.cls with
            | .routine => others ++ [⟨b, r.tag, .routine, duration, 0⟩]
            | .urgent => others.filter (fun e => e.cls = .urgent) ++ ⟨b, r.tag, .urgent, duration, 0⟩
                :: others.filter fun e => e.cls = .routine))) ∧
        (s.pump.state ≠ .startPending → t.pump = s.pump) ∧
        (s.pump.state = .startPending →
          let better : Prop := r.score < s.duty.score ∨
            (r.score = s.duty.score ∧ tieOrder (rotationInForce s) b < tieOrder (rotationInForce s) x.bay)
          (r.pumpState = .starting → t.pump.state = .stopped ∧ t.pump.cause = .stagger) ∧
          (r.pumpState = .startPending → better → t.pump.state = .stopped ∧ t.pump.cause = .betterStarter) ∧
          (r.pumpState ≠ .starting → ¬(r.pumpState = .startPending ∧ better) → t.pump = s.pump))) ∧
      (standingIn x t.claims.entries = standingIn x s.claims.entries → ∀ r, decodeReport f.payload = some r → r.restart = false →
        t.screen = s.screen) ∧
      t = { s with choices := t.choices, ladder := t.ladder, peers := t.peers, fouling := t.fouling, claims := t.claims,
                   screen := t.screen, pump := t.pump, conds := t.conds, alarms := t.alarms, link := t.link,
                   loader := t.loader }

/-- ORDER_FRAME: the record takes the demand, clamped to 12, and the rotation modulo 12, with age 0 and DEMAND HELD clear. The ladder
returns to LINKED from any stage, which ends LINK ISOLATED and hands a STATUS over when the stage was another. A sequence number other
than the last applied has its masks applied: the own acknowledge flag moves the entries and the own wash flag may make a claim; the
number last applied has neither. -/
def Obligations.OrderFrameIsTaken : Prop :=
  ∀ (s : State) (x : Ctx) (f : Frame), ctx? s = some x → s.link.receiver ≠ .waitIdle → s.link.tx ≠ .send →
    frameValid f = true → f.kind = kindOrder →
    let sequence := f.payload.getD 0 0#8
    let ackFlag := (byteAt f.payload 3 * 256 + byteAt f.payload 4).testBit x.bay.val
    let washFlag := (byteAt f.payload 5 * 256 + byteAt f.payload 6).testBit x.bay.val
    let isolation := s.conds.linkIsolated && decide (s.ladder.stage = .linked)
    let ladderAlone (t : State) : Prop :=
      t.conds = { s.conds with linkIsolated := isolation } ∧
      (∀ a : Alarm, a ≠ .linkIsolated ∨ isolation = s.conds.linkIsolated → alarmState t a = alarmState s a) ∧
      (isolation ≠ s.conds.linkIsolated → alarmEnabled x.cfg 14 = true →
        alarmState t .linkIsolated = (match alarmState s .linkIsolated with
                                      | .normal => .normal
                                      | .unack => .returned
                                      | .acked => .normal
                                      | .returned => .returned))
    let ended (a : Alarm) : Prop := a = .pumpFail ∨ a = .screenStall ∨ a = .dutyRecordLost ∨
      (a = .linkIsolated ∧ s.ladder.stage ≠ .linked)
    ∃ t, exec (.orderFrame f) s = .next t ∧ t.link.receiver = .waitIdle ∧ t.ladder = ⟨0, .linked⟩ ∧
      t.order = { heard := true, lastApplied := some sequence, demand := min (byteAt f.payload 1) 12,
                  rotation := byteAt f.payload 2 % 12, age := 0, demandHeld := false } ∧
      (s.ladder.stage ≠ .linked → s.link.tx ≠ .mute → handedOver .status t) ∧
      (s.order.lastApplied = some sequence ∨ (ackFlag = false ∧ washFlag = false) →
        ladderAlone t ∧ (s.ladder.stage = .linked → t.link = { s.link with receiver := .waitIdle }) ∧
        t = { s with order := t.order, ladder := t.ladder, conds := t.conds, alarms := t.alarms, link := t.link }) ∧
      (s.order.lastApplied ≠ some sequence → ackFlag = true ∨ washFlag = true →
        (ackFlag = false → ladderAlone t ∧ t.pump = s.pump) ∧
        (ackFlag = true → PumpLaw s →
          t.conds = { s.conds with
            pumpFail := false, screenStall := false, dutyRecordLost := false, linkIsolated := isolation } ∧
          ∀ a : Alarm, alarmEnabled x.cfg a.index.val = true →
            (¬ended a ∨ s.conds.get a = false →
              alarmState t a = (match alarmState s a with
                                | .normal => .normal
                                | .unack => .acked
                                | .acked => .acked
                                | .returned => .normal)) ∧
            (ended a → s.conds.get a = true → alarmState s a = .unack ∨ alarmState s a = .acked →
              alarmState t a = .normal)) ∧
        (washFlag = false → t.screen.wash = s.screen.wash ∧ t.screen.tag = s.screen.tag) ∧
        (washFlag = true → s.screen.wash = .idle → s.loader.phase = .operating → claimsBlocked s = false →
          s.screen.gapTimer = none →
          t.screen.wash = .claiming ∧ t.screen.tag = (s.screen.tag + 1) % 16 ∧
          t.screen.cls = (if x.cfg.urgentThreshold ≤ s.fouling.index ∧ s.fouling.stale = false then .urgent else .routine)) ∧
        t = { s with choices := t.choices, order := t.order, ladder := t.ladder, fouling := t.fouling, screen := t.screen,
                     pump := t.pump, conds := t.conds, alarms := t.alarms, link := t.link, loader := t.loader })

/-! ### The link interface -/

/-- STATUS_TIMER_EXPIRY offers a STATUS: discarded in MUTE, in the place of one that waits, taken into hand at once by an IDLE
transmitter with an empty queue (log 9), appended otherwise. Its target moves on by one status period. The access limit is 2000
character times of the link_rate, rounded to a whole millisecond either way (log 7). -/
def Obligations.StatusTimerOffersAStatus : Prop :=
  ∀ (s : State) (x : Ctx) (d : Clock), ctx? s = some x → s.link.statusTimer = some d → reached s.clock d = true →
    let next := some (d + ms (x.cfg.statusPeriod * 250))
    (x.cfg.linkRate = 0 → accessLimitMs x.cfg = 1041 ∨ accessLimitMs x.cfg = 1042) ∧
    (x.cfg.linkRate = 1 → accessLimitMs x.cfg = 520 ∨ accessLimitMs x.cfg = 521) ∧
    (x.cfg.linkRate = 2 → accessLimitMs x.cfg = 260 ∨ accessLimitMs x.cfg = 261) ∧
    (s.link.tx = .mute ∨ .status ∈ s.link.queue →
      exec .statusTimerExpiry s = .next { s with link := { s.link with statusTimer := next } }) ∧
    (s.link.tx = .idle → s.link.queue = [] →
      exec .statusTimerExpiry s = .next { s with link := { s.link with
        statusTimer := next, tx := .defer, inHand := some { frame := .status, attempt := 1, bytes := [] },
        accessTimer := some (s.clock + ms (accessLimitMs x.cfg)) } }) ∧
    (s.link.tx ≠ .mute → s.link.tx ≠ .idle → .status ∉ s.link.queue →
      exec .statusTimerExpiry s = .next { s with link := { s.link with
        statusTimer := next, queue := s.link.queue ++ [.status] } })

/-- ATTEMPT_BEGIN in DEFER: the access timer stops and SEND begins; the characters are SYNC, the KIND, the own bay number, the length,
the payload and the CRC over KIND through the payload, high byte first. A STATUS carries the present values of the owning blocks,
RESTART in LISTENING alone; its fields' places are those of LayoutsReadBackWhole. In another state it has no effect. The receiver is
then ARMED (log 8). -/
def Obligations.AttemptTakesThePresentValues : Prop :=
  ∀ (s : State) (x : Ctx), ctx? s = some x →
    (s.link.tx ≠ .defer → exec .attemptBegin s = .next s) ∧
    ∀ h : InHand, s.link.tx = .defer → s.link.inHand = some h →
      ∃ bytes covered : List Byte,
        exec .attemptBegin s = .next { s with link := { s.link with
          tx := .send, accessTimer := none, receiver := .armed, inHand := some { h with bytes := bytes } } } ∧
        bytes = 0x5A#8 :: covered ++ [byte ((crc covered).toNat / 256), byte (crc covered).toNat] ∧
        (match h.frame with
         | .status => ∃ payload, covered = [0x11#8, byte (bayNumber x.bay), 23#8] ++ payload ∧ payload.length = 23 ∧
             payload = encodeReport {
               restart := decide (s.loader.phase = .listening), swarm := s.fouling.swarm, demandHeld := s.order.demandHeld,
               outerSuspect := s.tide.suspect, eligible := eligible s, startable := startable x.cfg s,
               runFeedback := s.lines.run, foulingStale := s.fouling.stale, stage := s.ladder.stage,
               outerSensor := s.front.outer.state, innerSensor := s.front.inner.state, pumpState := s.pump.state,
               cause := s.pump.cause, wash := s.screen.wash, cls := s.screen.cls, tag := s.screen.tag,
               fouling := s.fouling.index, outerLevel := s.front.outer.level, innerLevel := s.front.inner.level,
               runHours := min (s.pump.runMinutes / 60) 65535, starts := startsInLastHour s, score := s.duty.score,
               screenPeriod := s.screen.period, swarmIntensity := s.fouling.intensity, alarms := s.alarms }
         | .claim tag k n => covered = [0x22#8, byte (bayNumber x.bay), 4#8, byte tag, if k = .urgent then 1 else 0,
             byte (n / 256), byte n]
         | .release tag => covered = [0x33#8, byte (bayNumber x.bay), 1#8, byte tag])

/-- TRANSMIT_COMPLETION: the frame leaves the hand and its sender is told. A STATUS tells no block; a CLAIM lists the own claim, whose
standing moves a CLAIMING wash on and leaves a RELEASING one with its outputs; a RELEASE removes the own entry of its tag and makes the
wash end. The transmitter takes the next frame that waits, under the access limit of StatusTimerOffersAStatus (log 7). The receiver is
in WAIT IDLE (log 8). -/
def Obligations.CompletionTellsTheSender : Prop :=
  ∀ (s : State) (x : Ctx) (h : InHand), ctx? s = some x → s.link.tx = .send → s.link.inHand = some h →
    (h.frame = .status → s.link.queue = [] →
      exec .transmitCompletion s = .next { s with link := { s.link with
        tx := .idle, inHand := none, accessTimer := none, receiver := .waitIdle } }) ∧
    (∀ f rest, h.frame = .status → s.link.queue = f :: rest →
      exec .transmitCompletion s = .next { s with link := { s.link with
        tx := .defer, inHand := some { frame := f, attempt := 1, bytes := [] }, queue := rest, receiver := .waitIdle,
        accessTimer := some (s.clock + ms (accessLimitMs x.cfg)) } }) ∧
    (∀ tag k n, h.frame = .claim tag k n → ClaimLaw s → standingIn x s.claims.entries = .none →
      ∃ t, exec .transmitCompletion s = .next t ∧
        (let others := s.claims.entries.filter fun e => e.bay ≠ x.bay
         t.claims.entries = regraded x
           (match k with
            | .routine => others ++ [⟨x.bay, tag, .routine, n, 0⟩]
            | .urgent => others.filter (fun e => e.cls = .urgent) ++ ⟨x.bay, tag, .urgent, n, 0⟩
                :: others.filter fun e => e.cls = .routine)) ∧
        standingIn x t.claims.entries ≠ .none ∧
        (s.screen.wash = .claiming → t.link.tx = .defer ∧ (standingIn x t.claims.entries = .inRange → washStarts x s t) ∧
          (standingIn x t.claims.entries = .beyondRange → t.screen.wash = .waiting)) ∧
        (s.screen.wash = .releasing → t.screen = s.screen ∧
          t.link = (match s.link.queue with
                    | [] => { s.link with tx := .idle, inHand := none, accessTimer := none, receiver := .waitIdle }
                    | f :: rest => { s.link with
                        tx := .defer, inHand := some { frame := f, attempt := 1, bytes := [] }, queue := rest,
                        receiver := .waitIdle, accessTimer := some (s.clock + ms (accessLimitMs x.cfg)) })) ∧
        t = { s with claims := t.claims, screen := t.screen, link := t.link }) ∧
    (∀ tag, h.frame = .release tag → s.screen.wash = .releasing →
      ∃ t, exec .transmitCompletion s = .next t ∧ t.screen.wash = .idle ∧
        ((∃ e ∈ s.claims.entries, e.bay = x.bay ∧ e.tag = tag) →
          t.claims.entries = regraded x (s.claims.entries.filter fun e => e.bay ≠ x.bay)) ∧
        ((∀ e ∈ s.claims.entries, e.bay = x.bay → e.tag ≠ tag) → t.claims = s.claims) ∧
        t.screen.gapTimer = some (s.clock + ms (x.cfg.minWashGap * 60000)) ∧ t.screen.intervalDue = false ∧
        t.screen.intervalTimer = (if x.cfg.maxWashInterval = 0 then none
                                  else some (s.clock + ms (x.cfg.maxWashInterval * 60000))) ∧
        t.link.tx = .defer ∧ t = { s with claims := t.claims, screen := t.screen, link := t.link })

/-- COLLISION in SEND leads to BACKOFF with a fresh access timer. The end of the backoff, and an expiry of the access timer in DEFER or
BACKOFF, is a failed attempt: below eight the count rises and the state is DEFER, and the eighth drops the frame and tells its sender,
after which a CLAIMING wash is IDLE and a RELEASING one has its wash end. The access limit is that of StatusTimerOffersAStatus (log 7);
that the access timer stops at a drop is log 17's. -/
def Obligations.CollisionsRetryAndDrop : Prop :=
  ∀ (s : State) (x : Ctx) (h : InHand), ctx? s = some x → s.link.inHand = some h →
    (∀ matched got, s.link.tx = .send →
      ∃ t, exec (.collision matched got) s = .next t ∧ t = { s with link := { s.link with
        tx := .backoff, accessTimer := some (s.clock + ms (accessLimitMs x.cfg)), receiver := t.link.receiver } }) ∧
    ∀ c : Instr, (c = .backoffEnd ∧ s.link.tx = .backoff) ∨
        (c = .accessTimerExpiry ∧ (s.link.tx = .defer ∨ s.link.tx = .backoff) ∧
          ∃ d, s.link.accessTimer = some d ∧ reached s.clock d = true) →
      (h.attempt < 8 →
        exec c s = .next { s with link := { s.link with
          tx := .defer, inHand := some { h with attempt := h.attempt + 1 },
          accessTimer := some (s.clock + ms (accessLimitMs x.cfg)) } }) ∧
      (8 ≤ h.attempt → h.frame = .status → s.link.queue = [] →
        exec c s = .next { s with link := { s.link with tx := .idle, inHand := none, accessTimer := none } }) ∧
      (8 ≤ h.attempt → (∃ tag k n, h.frame = .claim tag k n) →
        ∃ t, exec c s = .next t ∧ t.claims = s.claims ∧
          (s.screen.wash = .claiming → t.screen.wash = .idle ∧ t.link.tx = .defer) ∧
          (s.screen.wash ≠ .claiming → t.screen = s.screen) ∧
          t.screen.gapTimer = s.screen.gapTimer ∧ t.screen.intervalTimer = s.screen.intervalTimer ∧
          t = { s with screen := t.screen, link := t.link }) ∧
      (8 ≤ h.attempt → ∀ tag, h.frame = .release tag → s.screen.wash = .releasing →
        ∃ t, exec c s = .next t ∧ t.screen.wash = .idle ∧
          t.screen.gapTimer = some (s.clock + ms (x.cfg.minWashGap * 60000)) ∧
          ((∃ e ∈ s.claims.entries, e.bay = x.bay ∧ e.tag = tag) →
            t.claims.entries = regraded x (s.claims.entries.filter fun e => e.bay ≠ x.bay)) ∧
          t = { s with claims := t.claims, screen := t.screen, link := t.link })

/-- The receiver: armed by the idle line, returned to WAIT IDLE by a character other than SYNC, an abandoned frame and an invalid one,
with no other effect; a valid frame that ends in SEND is the own frame and is handed to no block. That a command bringing a whole frame
finds nothing in WAIT IDLE is log 8's. -/
def Obligations.ReceiverFindsTheFrames : Prop :=
  ∀ s : State,
    let waits : State := { s with link := { s.link with receiver := .waitIdle } }
    (s.inReset = false → s.link.receiver = .waitIdle →
      exec .receiverArmed s = .next { s with link := { s.link with receiver := .armed } }) ∧
    (s.link.receiver ≠ .waitIdle → exec .receiverArmed s = .next s) ∧
    exec .frameAbandoned s = .next waits ∧ (∀ f, exec (.invalidFrame f) s = .next waits) ∧
    (s.link.receiver = .armed → exec .nonSyncCharacter s = .next waits) ∧
    (s.link.receiver ≠ .armed → exec .nonSyncCharacter s = .next s) ∧
    ∀ f c, c = .statusFrame f ∨ c = .claimFrame f ∨ c = .releaseFrame f ∨ c = .orderFrame f →
      (s.link.receiver = .waitIdle → exec c s = .next s) ∧
      (s.inReset = false → s.link.receiver ≠ .waitIdle → s.link.tx = .send ∨ ctx? s = none ∨ frameValid f = false →
        exec c s = .next waits)

/-- A STATUS that bears the own bay, heard outside SEND: BAY CONFLICT rises with its alarm, the transmitter is MUTE with nothing in hand
or waiting and its timers stopped, the own claim leaves the list, the wash state is IDLE with the drive and the spray off, and a START
pulse is cut and a pending start withdrawn. Heard again it has no effect. -/
def Obligations.OwnBayHeardIsAConflict : Prop :=
  ∀ (s : State) (x : Ctx) (f : Frame), ctx? s = some x → s.link.receiver ≠ .waitIdle → s.link.tx ≠ .send →
    frameValid f = true → f.kind = kindStatus → bayOfByte f.bay = some x.bay →
    (s.conds.bayConflict = true →
      exec (.statusFrame f) s = .next { s with link := { s.link with receiver := .waitIdle } }) ∧
    (s.conds.bayConflict = false → ClaimLaw s → PumpLaw s →
      ∃ t, exec (.statusFrame f) s = .next t ∧ t.conds = { s.conds with bayConflict := true } ∧
        (alarmEnabled x.cfg 15 = true → alarmState s .bayConflict = .normal → alarmState t .bayConflict = .unack) ∧
        (∀ a : Alarm, a ≠ .bayConflict → alarmState t a = alarmState s a) ∧
        t.link = { tx := .mute, inHand := none, queue := [], accessTimer := none, receiver := .waitIdle, statusTimer := none } ∧
        t.claims.entries = regraded x (s.claims.entries.filter fun e => e.bay ≠ x.bay) ∧
        t.screen.wash = .idle ∧ t.screen.drive = .off ∧ t.screen.spray = false ∧ t.screen.cycleTimer = none ∧
        t.screen.gapTimer = s.screen.gapTimer ∧ t.screen.intervalTimer = s.screen.intervalTimer ∧
        (s.pump.pulse = some .start → t.pump.pulse = none ∧ t.pump.pulseTimer = none) ∧
        (s.pump.pulse ≠ some .start → t.pump.pulse = s.pump.pulse ∧ t.pump.pulseTimer = s.pump.pulseTimer) ∧
        (s.pump.state = .startPending → t.pump.state = .stopped ∧ t.pump.cause = .notEligible) ∧
        (s.pump.state ≠ .startPending → t.pump.state = s.pump.state ∧ t.pump.feedbackTimer = s.pump.feedbackTimer) ∧
        t.fouling = s.fouling ∧ t.loader = s.loader ∧
        t = { s with claims := t.claims, screen := t.screen, pump := t.pump, conds := t.conds, alarms := t.alarms,
                     link := t.link })

/-! ### The duty record -/

/-- The record write: the end of WRITE ENABLE begins a PAGE WRITE to address 128 of the present count, high byte first, with its CRC;
the end of that begins the poll; each expiry of the poll timer makes a READ STATUS; a status with bit 0 clear, or the fiftieth with it
set, ends the write, and a request held begins a further one. The poll timer's first target is 1 ms ahead (log 12). -/
def Obligations.RecordWriteRunsItsStates : Prop :=
  ∀ (s : State) (x : Ctx), ctx? s = some x →
    let count := [byte (s.pump.runMinutes / 65536), byte (s.pump.runMinutes / 256), byte s.pump.runMinutes]
    (s.loader.write = .enable →
      exec .writeEnableDone s = .next { s with loader := { s.loader with
        write := .program,
        spi := some (.pageWrite 128 (count ++ [byte ((crc count).toNat / 256), byte (crc count).toNat])) } }) ∧
    (s.loader.write = .program →
      exec .pageWriteDone s = .next { s with loader := { s.loader with
        write := .poll, pollCount := 0, pollTimer := some (s.clock + ms 1), spi := none } }) ∧
    (∀ d, s.loader.pollTimer = some d → reached s.clock d = true →
      exec .pollTimerExpiry s = .next { s with loader := { s.loader with
        pollTimer := some (d + ms 1), spi := some .readStatus } }) ∧
    ∀ status : Byte, s.loader.write = .poll → s.loader.spi = some .readStatus →
      (status.getLsbD 0 = true → s.loader.pollCount + 1 < 50 →
        exec (.readStatusDone status) s = .next { s with loader := { s.loader with
          pollCount := s.loader.pollCount + 1, spi := none } }) ∧
      (status.getLsbD 0 = false ∨ 50 ≤ s.loader.pollCount + 1 →
        ∃ t, exec (.readStatusDone status) s = .next t ∧ t.loader.pollTimer = none ∧
          (s.loader.writePending = false → t.loader.write = .idle ∧ t.loader.spi = none ∧ t.loader.writePending = false) ∧
          (s.loader.writePending = true →
            t.loader.write = .enable ∧ t.loader.spi = some .writeEnable ∧ t.loader.writePending = false) ∧
          t.loader.mark = s.loader.mark ∧ t = { s with loader := t.loader })

/-! ### The byte layouts -/

/-- What the station sends, a station reads: every report within the ranges of its fields, every claim, and every run-minute count comes
back whole from its bytes, and a frame of them is valid. A STATUS payload is read with each field at its place, and it is refused
exactly when a code or a value is outside its field. The CRC starts at 0xFFFF and takes each byte most significant bit first, by the
generator 0x1021, with no inversion at the end. -/
def Obligations.LayoutsReadBackWhole : Prop :=
  (∀ r : Report, r.tag < 16 → r.fouling ≤ 100 → -10000 ≤ r.outerLevel → r.outerLevel ≤ 30000 → -10000 ≤ r.innerLevel →
    r.innerLevel ≤ 30000 → r.runHours < 65536 → r.starts ≤ 6 → r.score ≤ 855 ∨ r.score = 1023 → r.screenPeriod < 65536 →
    r.swarmIntensity ≤ 1200 → (encodeReport r).length = 23 ∧ decodeReport (encodeReport r) = some r) ∧
  (∀ (p : List Byte) (r : Report), decodeReport p = some r → reportAt p r) ∧
  (∀ p : List Byte, decodeReport p = none ↔
    byteAt p 1 % 4 = 3 ∨ byteAt p 1 / 4 % 4 = 3 ∨ byteAt p 1 / 16 % 4 = 3 ∨ 7 < byteAt p 2 % 16 ∨ 7 < byteAt p 2 / 16 ∨
    5 < byteAt p 3 % 8 ∨ 100 < byteAt p 4 ∨ intAt p 5 < -10000 ∨ 30000 < intAt p 5 ∨ intAt p 7 < -10000 ∨ 30000 < intAt p 7 ∨
    6 < byteAt p 11 ∨ (856 ≤ wordAt p 12 ∧ wordAt p 12 ≤ 1022) ∨ 1023 < wordAt p 12 ∨ 1200 < wordAt p 16) ∧
  (∀ (tag n : Nat) (k : ClaimClass), tag < 16 → 1 ≤ n → n ≤ 9000 → decodeClaim (encodeClaim tag k n) = some (tag, k, n)) ∧
  (let put (register : BitVec 16) (bit : Bool) : BitVec 16 :=
     if register.msb = bit then register <<< 1 else (register <<< 1) ^^^ 0x1021#16
   crc [] = 0xFFFF#16 ∧
   ∀ (covered : List Byte) (b : Byte),
     crc (covered ++ [b]) = [7, 6, 5, 4, 3, 2, 1, 0].foldl (fun register i => put register (b.getLsbD i)) (crc covered)) ∧
  (∀ n, n < 2 ^ 24 → (recordBytes n).length = 5 ∧ readRecord (recordBytes n) = some n) ∧
  (∀ (kind : Byte) (b : Bay) (p : List Byte), kindLength kind = some p.length → kind ≠ kindOrder →
    let covered := [kind, byte (bayNumber b), byte p.length] ++ p
    frameValid { kind := kind, bay := byte (bayNumber b), len := byte p.length, payload := p, crc := crc covered } = true ∧
    bayOfByte (byte (bayNumber b)) = some b)

/-! ### The laws every step keeps -/

/-- The reset state keeps every law. -/
def Obligations.EveryLawHoldsAtReset : Prop :=
  ScreenLaw State.reset ∧ PumpLaw State.reset ∧ CountedLaw State.reset ∧ StartLaw State.reset ∧ AlarmLaw State.reset ∧
  LadderLaw State.reset ∧ ClaimLaw State.reset ∧ LinkLaw State.reset ∧ WashLaw State.reset

/-- Every step keeps the laws of the drive and the spray. SCREEN_SLOW and SCREEN_FAST are on in the drive SLOW and FAST alone, never
together, and SCREEN_FAST and SPRAY only in WASHING. The choice of the drive is the table of R103. -/
def Obligations.EveryStepKeepsTheScreenLaw : Prop :=
  ∀ s t : State, ScreenLaw s → step s = .next t → ScreenLaw t ∧
    (∀ u : State, driveChoice u =
      if u.loader.phase = .loading ∨ u.loader.phase = .halted then .off
      else if u.conds.bayConflict = true then .off
      else if u.conds.screenStall = true then .off
      else if u.screen.wash = .washing then .fast
      else if u.fouling.swarm = true ∨ u.conds.highHigh = true ∨ u.conds.surge = true then .slow
      else .off) ∧
    ((outputs t).screenSlow = true ↔ t.screen.drive = .slow) ∧ ((outputs t).screenFast = true ↔ t.screen.drive = .fast) ∧
    ((outputs t).spray = true ↔ t.screen.spray = true) ∧ ¬((outputs t).screenSlow = true ∧ (outputs t).screenFast = true) ∧
    ((outputs t).screenFast = true ∨ (outputs t).spray = true → t.screen.wash = .washing)

/-- Every step keeps the laws of the pump state. START and STOP are on while their pulse is in progress, never together, and neither in
LOCKED or TRIPPED. -/
def Obligations.EveryStepKeepsThePumpLaw : Prop :=
  ∀ s t : State, PumpLaw s → step s = .next t → PumpLaw t ∧
    ((outputs t).start = true ↔ t.pump.pulse = some .start) ∧ ((outputs t).stop = true ↔ t.pump.pulse = some .stop) ∧
    ¬((outputs t).start = true ∧ (outputs t).stop = true) ∧
    (t.pump.state = .locked ∨ t.pump.state = .tripped → (outputs t).start = false ∧ (outputs t).stop = false)

/-- Every step keeps the law of counted running. -/
def Obligations.EveryStepKeepsTheCountedLaw : Prop := ∀ s t : State, CountedLaw s → step s = .next t → CountedLaw t

/-- Every step keeps the start limit. -/
def Obligations.EveryStepKeepsTheStartLimit : Prop := ∀ s t : State, StartLaw s → step s = .next t → StartLaw t

/-- Every step keeps the agreement of the alarms with their conditions. ALARM is on exactly when some entry is UNACK or RETURNED, or the
phase is HALTED. -/
def Obligations.EveryStepKeepsTheAlarmLaw : Prop :=
  ∀ s t : State, AlarmLaw s → step s = .next t → AlarmLaw t ∧
    ((outputs t).alarm = true ↔
      t.loader.phase = .halted ∨ ∃ a : Alarm, alarmState t a = .unack ∨ alarmState t a = .returned)

/-- Every step keeps the law of the isolation ladder. -/
def Obligations.EveryStepKeepsTheLadderLaw : Prop := ∀ s t : State, LadderLaw s → step s = .next t → LadderLaw t

/-- Every step keeps the law of the claim list. The grant range is the first wash_headers places: the own standing is in range exactly
there, and the in-range time is 0 beyond it and for the own entry. -/
def Obligations.EveryStepKeepsTheClaimLaw : Prop :=
  ∀ s t : State, ClaimLaw s → step s = .next t → ClaimLaw t ∧
    ∀ (x : Ctx) (l : List Claim),
      (regraded x l).length = l.length ∧
      (∀ (i : Nat) (e : Claim), l[i]? = some e → (regraded x l)[i]? =
        some (if i < x.cfg.washHeaders ∧ e.bay ≠ x.bay then e else { e with inRange := 0 })) ∧
      (standingIn x l = .none ↔ ∀ e ∈ l, e.bay ≠ x.bay) ∧
      (standingIn x l = .inRange ↔ ∃ i e, i < x.cfg.washHeaders ∧ l[i]? = some e ∧ e.bay = x.bay) ∧
      (ctx? t = some x → ∀ (i : Nat) (e : Claim), t.claims.entries[i]? = some e → x.cfg.washHeaders ≤ i ∨ e.bay = x.bay →
        e.inRange = 0)

/-- Every step keeps the law of the transmitter, and LINK_DE is on in SEND alone. The law's clause on the queue of an IDLE transmitter
rests on log 9, and that on the access timer on log 17. -/
def Obligations.EveryStepKeepsTheLinkLaw : Prop :=
  ∀ s t : State, LinkLaw s → step s = .next t → LinkLaw t ∧ ((outputs t).linkDe = true ↔ t.link.tx = .send)

/-- Every step keeps the law of the shared header, in a station that keeps those of the transmitter and of the screen. A station in
WASHING has its own claim, under its tag, at one of the first wash_headers places of its list. -/
def Obligations.EveryStepKeepsTheWashLaw : Prop :=
  ∀ s t : State, LinkLaw s → ScreenLaw s → WashLaw s → step s = .next t → WashLaw t ∧
    ∀ x, ctx? t = some x → t.screen.wash = .washing →
      ∃ i e, i < x.cfg.washHeaders ∧ t.claims.entries[i]? = some e ∧ e.bay = x.bay ∧ e.tag = t.screen.tag

/-- The phase moves only as the table of phases says: to LOADING by a reset, from LOADING to LISTENING or HALTED, from LISTENING to
OPERATING; the bay and the settings stand from their reading to the next reset, HALTED is left by a reset alone, the outputs standing as
they were in it, SPI_CS is high outside a transaction, and in OPERATING the run-minute count never falls. -/
def Obligations.PhasesMoveInOrder : Prop :=
  ∀ s t : State, ResetLoads s → step s = .next t →
    (t.loader.phase = s.loader.phase ∨ t = { State.reset with pending := t.pending, lines := t.lines, choices := t.choices } ∨
      (s.loader.phase = .loading ∧ (t.loader.phase = .listening ∨ t.loader.phase = .halted)) ∨
      (s.loader.phase = .listening ∧ t.loader.phase = .operating)) ∧
    (s.loader.phase = .halted → t.loader.phase = .halted → outputs t = outputs s) ∧
    ((outputs t).spiCsHigh = true ↔ t.loader.spi = none) ∧
    (s.inReset = false → t.inReset = true →
      t = { State.reset with pending := t.pending, lines := t.lines, choices := t.choices }) ∧
    (t.inReset = false → s.inReset = false → t.loader.bay = s.loader.bay ∧
      (s.loader.phase ≠ .loading → t.loader.cfg = s.loader.cfg)) ∧
    (s.inReset = false → t.inReset = false → s.loader.phase = .operating → s.pump.runMinutes ≤ t.pump.runMinutes)
end

