-- ==== Sys2Proof/Laws/State.lean ====
section
/-! SUPPORT. Sys2Proof/Laws/State.lean: the small lemmas of the state: the fields of `State.reset`, the conditions by their alarm, the
named updates field by field, and what `ctx?`, `whenLive`, `onExpiry` and `eitherOrder` answer. -/

namespace Sys2Proof.Machine

/-! ### The fields of the state at reset -/

@[simp] theorem reset_pending : State.reset.pending = [] := rfl
@[simp] theorem reset_inReset : State.reset.inReset = true := rfl
@[simp] theorem reset_clock : State.reset.clock = 0 := rfl
@[simp] theorem reset_lines : State.reset.lines = Lines.reset := rfl
@[simp] theorem reset_tide : State.reset.tide = Tide.reset := rfl
@[simp] theorem reset_fouling : State.reset.fouling = Fouling.reset := rfl
@[simp] theorem reset_claims : State.reset.claims = ⟨[], none⟩ := rfl
@[simp] theorem reset_screen : State.reset.screen = Screen.reset := rfl
@[simp] theorem reset_duty : State.reset.duty = Duty.reset := rfl
@[simp] theorem reset_pump : State.reset.pump = Pump.reset := rfl
@[simp] theorem reset_conds : State.reset.conds = Conds.reset := rfl
@[simp] theorem reset_alarms : State.reset.alarms = Vector.replicate 17 .normal := rfl
@[simp] theorem reset_link : State.reset.link = Link.reset := rfl
@[simp] theorem reset_loader : State.reset.loader = Loader.reset := rfl
@[simp] theorem reset_ladder : State.reset.ladder = ⟨0, .linked⟩ := rfl

@[simp] theorem Conds.reset_get (a : Alarm) : Conds.reset.get a = false := by cases a <;> rfl

/-! ### The conditions -/

@[simp] theorem Conds.get_set_self (c : Conds) (a : Alarm) (v : Bool) : (c.set a v).get a = v := by cases a <;> rfl

theorem Conds.get_set_of_ne (c : Conds) {a b : Alarm} (v : Bool) (h : a ≠ b) : (c.set a v).get b = c.get b := by
  cases a <;> cases b <;> first | rfl | exact absurd rfl h

/-- Setting a condition to the value it has changes nothing. -/
@[simp] theorem Conds.set_get_self (c : Conds) (a : Alarm) : c.set a (c.get a) = c := by cases a <;> rfl

@[simp] theorem Conds.set_set (c : Conds) (a : Alarm) (v w : Bool) : (c.set a v).set a w = c.set a w := by cases a <;> rfl

theorem Alarm.index_injective {a b : Alarm} (h : a.index = b.index) : a = b := by
  cases a <;> cases b <;> first | rfl | exact absurd h (by decide)

theorem Alarm.index_val_ne {a b : Alarm} (h : a ≠ b) : a.index.val ≠ b.index.val := fun e =>
  h (Alarm.index_injective (Fin.ext e))

/-! ### The station at work -/

/-- `ctx?` answers exactly in LISTENING and OPERATING, out of reset, with the own bay and the settings loaded. -/
theorem ctx?_eq_some_iff (s : State) (x : Ctx) :
    ctx? s = some x ↔ (s.loader.phase = .listening ∨ s.loader.phase = .operating) ∧ s.inReset = false
      ∧ s.loader.bay = some x.bay ∧ s.loader.cfg = some x.cfg := by
  obtain ⟨b, c⟩ := x
  unfold ctx?
  split
  case h_1 b' c' hp hb hc => cases s.inReset <;> simp [hp, hb, hc]
  case h_2 b' c' hp hb hc => cases s.inReset <;> simp [hp, hb, hc]
  case h_3 h1 h2 =>
    constructor
    · intro h; cases h
    · rintro ⟨hp | hp, -, hb, hc⟩
      · exact absurd hc (h1 _ _ hp hb)
      · exact absurd hc (h2 _ _ hp hb)

/-- `ctx?` reads the phase, the own bay, the settings and the reset alone. -/
theorem ctx?_congr {s t : State} (hp : t.loader.phase = s.loader.phase) (hb : t.loader.bay = s.loader.bay)
    (hc : t.loader.cfg = s.loader.cfg) (hr : t.inReset = s.inReset) : ctx? t = ctx? s := by
  unfold ctx?; rw [hp, hb, hc, hr]

theorem whenLive_of {s : State} {x : Ctx} (h : ctx? s = some x) (act : Ctx → State → State) : whenLive s act = act x s := by
  simp [whenLive, h]

theorem whenLive_none {s : State} (h : ctx? s = none) (act : Ctx → State → State) : whenLive s act = s := by
  simp [whenLive, h]

/-- Whatever a live event does, it is one of two: the event at work, or nothing. -/
theorem whenLive_cases (s : State) (act : Ctx → State → State) :
    (∃ x, ctx? s = some x ∧ whenLive s act = act x s) ∨ (ctx? s = none ∧ whenLive s act = s) := by
  cases h : ctx? s with
  | some x => exact .inl ⟨x, rfl, whenLive_of h act⟩
  | none => exact .inr ⟨rfl, whenLive_none h act⟩

/-! ### Timers -/

theorem clockAtExpiry_of_reached {clock target : Clock} (h : reached clock target = true) :
    clockAtExpiry clock target = clock := by
  simp [clockAtExpiry, h]

/-- A due timer leaves the clock as it is. -/
theorem onExpiry_due {t : Timer} {s : State} {target : Clock} (ht : t = some target)
    (hr : reached s.clock target = true) (act : Clock → State → State) : onExpiry t s act = act target s := by
  simp [onExpiry, ht, clockAtExpiry_of_reached hr]

theorem onExpiry_some {t : Timer} {s : State} {target : Clock} (ht : t = some target) (act : Clock → State → State) :
    onExpiry t s act = act target { s with clock := clockAtExpiry s.clock target } := by
  simp [onExpiry, ht]

/-- At work, the expiry of a due timer is its action. -/
theorem whenLive_due {s : State} {x : Ctx} {T : State → Timer} {target : Clock} (h : ctx? s = some x) (ht : T s = some target)
    (hr : reached s.clock target = true) (act : Ctx → Clock → State → State) :
    (whenLive s fun x s => onExpiry (T s) s (act x)) = act x target s := by
  rw [whenLive_of h, onExpiry_due ht hr]

theorem onExpiry_none (s : State) (act : Clock → State → State) : onExpiry none s act = s := rfl

/-- A timer's expiry is its action, after the clock has come to the target, or nothing when it is stopped. -/
theorem onExpiry_cases (t : Timer) (s : State) (act : Clock → State → State) :
    (∃ target, t = some target ∧ onExpiry t s act = act target { s with clock := clockAtExpiry s.clock target })
      ∨ (t = none ∧ onExpiry t s act = s) := by
  cases t with
  | some target => exact .inl ⟨target, rfl, rfl⟩
  | none => exact .inr ⟨rfl, rfl⟩

@[simp] theorem ahead_isSome (s : State) (n : Nat) : (ahead s n).isSome = true := rfl
@[simp] theorem rearmed_isSome (t : Clock) (n : Nat) : (rearmed t n).isSome = true := rfl

/-! ### Either order -/

/-- The two hand-overs of one event are made in one of the two orders. -/
theorem eitherOrder_cases (first second : State → State) (s : State) :
    eitherOrder first second s = second (first { s with choices := s.choices + 1 })
      ∨ eitherOrder first second s = first (second { s with choices := s.choices + 1 }) := by
  unfold eitherOrder
  dsimp only
  split
  · exact .inl rfl
  · exact .inr rfl

/-- A law both hand-overs keep, and that does not read the choices, is kept in either order. -/
theorem eitherOrder_keeps {P : State → Prop} {first second : State → State} (h1 : ∀ s, P s → P (first s))
    (h2 : ∀ s, P s → P (second s)) (hc : ∀ s n, P s → P { s with choices := n }) {s : State} (hs : P s) :
    P (eitherOrder first second s) := by
  rcases eitherOrder_cases first second s with h | h <;> rw [h]
  · exact h2 _ (h1 _ (hc _ _ hs))
  · exact h1 _ (h2 _ (hc _ _ hs))

/-- A fold whose step keeps a projection keeps it. -/
theorem foldl_keeps {α β : Type} (p : State → β) (g : State → α → State) (h : ∀ t b, p (g t b) = p t) (l : List α) (s : State) :
    p (l.foldl g s) = p s := by
  induction l generalizing s with
  | nil => rfl
  | cons b l ih => rw [List.foldl_cons, ih, h]

/-- A fold whose step keeps a law keeps it. -/
theorem foldl_keeps_law {α : Type} {P : State → Prop} (g : State → α → State) (h : ∀ t b, P t → P (g t b)) (l : List α) {s : State}
    (hs : P s) : P (l.foldl g s) := by
  induction l generalizing s with
  | nil => exact hs
  | cons b l ih => exact ih (h _ _ hs)

/-! ### The named updates -/

@[simp] theorem tick_pending (s : State) : (tick s).pending = s.pending := by unfold tick; split <;> rfl
@[simp] theorem tick_loader (s : State) : (tick s).loader = s.loader := by unfold tick; split <;> rfl
@[simp] theorem tick_lines (s : State) : (tick s).lines = s.lines := by unfold tick; split <;> rfl
@[simp] theorem sprayOff_screen (s : State) : (sprayOff s).screen = { s.screen with spray := false, headerTimer := none } := rfl
@[simp] theorem stopCycle_screen (s : State) : (stopCycle s).screen = { s.screen with cycleTimer := none, cycleCount := 0 } := rfl
@[simp] theorem loadWorking_screen (x : Ctx) (s : State) :
    (loadWorking x s).screen = { s.screen with working := washSetInForce x.cfg s } := rfl
@[simp] theorem issuePulse_pump (x : Ctx) (p : Pulse) (s : State) : (issuePulse x p s).pump = { s.pump with
    pulse := some p, pulseTimer := ahead s ((if p = .start then x.cfg.startPulse else x.cfg.stopPulse) * 100) } := rfl
@[simp] theorem cutPulse_pump (s : State) : (cutPulse s).pump = { s.pump with pulse := none, pulseTimer := none } := rfl
@[simp] theorem stopSupervision_pump (s : State) : (stopSupervision s).pump =
    { s.pump with guardTimer := none, feedbackTimer := none, minRunTimer := none } := rfl
@[simp] theorem startMinutes_pump (s : State) : (startMinutes s).pump =
    { s.pump with minuteTimer := ahead s (60000 - s.pump.minuteAcc) } := rfl
@[simp] theorem storeReport_peers (b : Bay) (r : Report) (s : State) : (storeReport b r s).peers = s.peers.set b ⟨.present, 0, r⟩ := rfl
@[simp] theorem orderTaken_order (o : OrderFields) (s : State) : (orderTaken o s).order = { s.order with
    heard := true, demand := min o.demand 12, rotation := o.rotation % 12, age := 0, demandHeld := false } := rfl
@[simp] theorem invalidateLane_fouling (b : Bay) (s : State) : (invalidateLane b s).fouling = { s.fouling with
    lanes := s.fouling.lanes.set b { s.fouling.lanes[b] with invalidated := true } } := rfl
@[simp] theorem sampledLoops_front (x : Ctx) (outer inner : Nat) (s : State) : (sampledLoops x outer inner s).front =
    { s.front with outer := sampleLoop x.cfg.filterShift x.cfg.outer outer s.front.outer,
                   inner := sampleLoop x.cfg.filterShift x.cfg.inner inner s.front.inner } := rfl
@[simp] theorem beginWrite_loader (s : State) : (beginWrite s).loader =
    { s.loader with write := .enable, writePending := false, spi := some .writeEnable } := rfl

end Sys2Proof.Machine
end

