-- ==== Sys2Proof/Laws/Frames.lean ====
section
/-! SUPPORT. Sys2Proof/Laws/Frames.lean: the frame of every shared operation, one lemma each: the parts of the state it leaves as they
are. Each is a rewriting rule, so that a goal about an untouched part closes by `simp`. -/

namespace Sys2Proof.Machine

/-! ### Shared operations -/

@[simp] theorem takeNext_frame (x : Ctx) (s : State) :
    (takeNext x s).pending = s.pending ∧ (takeNext x s).choices = s.choices ∧ (takeNext x s).inReset = s.inReset ∧
    (takeNext x s).clock = s.clock ∧ (takeNext x s).lines = s.lines ∧ (takeNext x s).front = s.front ∧
    (takeNext x s).peers = s.peers ∧ (takeNext x s).ageingTimer = s.ageingTimer ∧ (takeNext x s).order = s.order ∧
    (takeNext x s).ladder = s.ladder ∧ (takeNext x s).tide = s.tide ∧ (takeNext x s).fouling = s.fouling ∧
    (takeNext x s).claims = s.claims ∧ (takeNext x s).screen = s.screen ∧ (takeNext x s).duty = s.duty ∧
    (takeNext x s).pump = s.pump ∧ (takeNext x s).conds = s.conds ∧ (takeNext x s).alarms = s.alarms ∧
    (takeNext x s).loader = s.loader := by
  unfold takeNext
  try dsimp only
  repeat' split
  all_goals simp

@[simp] theorem offer_frame (x : Ctx) (f : TxFrame) (s : State) :
    (offer x f s).pending = s.pending ∧ (offer x f s).choices = s.choices ∧ (offer x f s).inReset = s.inReset ∧
    (offer x f s).clock = s.clock ∧ (offer x f s).lines = s.lines ∧ (offer x f s).front = s.front ∧
    (offer x f s).peers = s.peers ∧ (offer x f s).ageingTimer = s.ageingTimer ∧ (offer x f s).order = s.order ∧
    (offer x f s).ladder = s.ladder ∧ (offer x f s).tide = s.tide ∧ (offer x f s).fouling = s.fouling ∧
    (offer x f s).claims = s.claims ∧ (offer x f s).screen = s.screen ∧ (offer x f s).duty = s.duty ∧
    (offer x f s).pump = s.pump ∧ (offer x f s).conds = s.conds ∧ (offer x f s).alarms = s.alarms ∧
    (offer x f s).loader = s.loader := by
  unfold offer
  try dsimp only
  repeat' split
  all_goals simp

@[simp] theorem offerStatus_frame (x : Ctx) (s : State) :
    (offerStatus x s).pending = s.pending ∧ (offerStatus x s).choices = s.choices ∧ (offerStatus x s).inReset = s.inReset ∧
    (offerStatus x s).clock = s.clock ∧ (offerStatus x s).lines = s.lines ∧ (offerStatus x s).front = s.front ∧
    (offerStatus x s).peers = s.peers ∧ (offerStatus x s).ageingTimer = s.ageingTimer ∧ (offerStatus x s).order = s.order ∧
    (offerStatus x s).ladder = s.ladder ∧ (offerStatus x s).tide = s.tide ∧ (offerStatus x s).fouling = s.fouling ∧
    (offerStatus x s).claims = s.claims ∧ (offerStatus x s).screen = s.screen ∧ (offerStatus x s).duty = s.duty ∧
    (offerStatus x s).pump = s.pump ∧ (offerStatus x s).conds = s.conds ∧ (offerStatus x s).alarms = s.alarms ∧
    (offerStatus x s).loader = s.loader := by
  simp [offerStatus]

@[simp] theorem annunciate_frame (x : Ctx) (a : Alarm) (rise : Bool) (s : State) :
    (annunciate x a rise s).pending = s.pending ∧ (annunciate x a rise s).choices = s.choices ∧
    (annunciate x a rise s).inReset = s.inReset ∧ (annunciate x a rise s).clock = s.clock ∧
    (annunciate x a rise s).lines = s.lines ∧ (annunciate x a rise s).front = s.front ∧
    (annunciate x a rise s).peers = s.peers ∧ (annunciate x a rise s).ageingTimer = s.ageingTimer ∧
    (annunciate x a rise s).order = s.order ∧ (annunciate x a rise s).ladder = s.ladder ∧
    (annunciate x a rise s).tide = s.tide ∧ (annunciate x a rise s).fouling = s.fouling ∧
    (annunciate x a rise s).claims = s.claims ∧ (annunciate x a rise s).screen = s.screen ∧
    (annunciate x a rise s).duty = s.duty ∧ (annunciate x a rise s).pump = s.pump ∧
    (annunciate x a rise s).conds = s.conds ∧ (annunciate x a rise s).loader = s.loader := by
  unfold annunciate
  try dsimp only
  repeat' split
  all_goals simp

@[simp] theorem setCond_frame (x : Ctx) (a : Alarm) (v : Bool) (s : State) :
    (setCond x a v s).pending = s.pending ∧ (setCond x a v s).choices = s.choices ∧ (setCond x a v s).inReset = s.inReset ∧
    (setCond x a v s).clock = s.clock ∧ (setCond x a v s).lines = s.lines ∧ (setCond x a v s).front = s.front ∧
    (setCond x a v s).peers = s.peers ∧ (setCond x a v s).ageingTimer = s.ageingTimer ∧ (setCond x a v s).order = s.order ∧
    (setCond x a v s).ladder = s.ladder ∧ (setCond x a v s).tide = s.tide ∧ (setCond x a v s).fouling = s.fouling ∧
    (setCond x a v s).claims = s.claims ∧ (setCond x a v s).screen = s.screen ∧ (setCond x a v s).duty = s.duty ∧
    (setCond x a v s).pump = s.pump ∧ (setCond x a v s).loader = s.loader := by
  unfold setCond
  try dsimp only
  repeat' split
  all_goals simp

@[simp] theorem beginWrite_frame (s : State) :
    (beginWrite s).pending = s.pending ∧ (beginWrite s).choices = s.choices ∧ (beginWrite s).inReset = s.inReset ∧
    (beginWrite s).clock = s.clock ∧ (beginWrite s).lines = s.lines ∧ (beginWrite s).front = s.front ∧
    (beginWrite s).peers = s.peers ∧ (beginWrite s).ageingTimer = s.ageingTimer ∧ (beginWrite s).order = s.order ∧
    (beginWrite s).ladder = s.ladder ∧ (beginWrite s).tide = s.tide ∧ (beginWrite s).fouling = s.fouling ∧
    (beginWrite s).claims = s.claims ∧ (beginWrite s).screen = s.screen ∧ (beginWrite s).duty = s.duty ∧
    (beginWrite s).pump = s.pump ∧ (beginWrite s).conds = s.conds ∧ (beginWrite s).alarms = s.alarms ∧
    (beginWrite s).link = s.link ∧ (beginWrite s).loader.phase = s.loader.phase ∧
    (beginWrite s).loader.bay = s.loader.bay ∧ (beginWrite s).loader.cfg = s.loader.cfg ∧
    (beginWrite s).loader.mark = s.loader.mark ∧ (beginWrite s).loader.window = s.loader.window ∧
    (beginWrite s).loader.pollCount = s.loader.pollCount ∧ (beginWrite s).loader.pollTimer = s.loader.pollTimer := by
  simp [beginWrite]

@[simp] theorem requestWrite_frame (s : State) :
    (requestWrite s).pending = s.pending ∧ (requestWrite s).choices = s.choices ∧ (requestWrite s).inReset = s.inReset ∧
    (requestWrite s).clock = s.clock ∧ (requestWrite s).lines = s.lines ∧ (requestWrite s).front = s.front ∧
    (requestWrite s).peers = s.peers ∧ (requestWrite s).ageingTimer = s.ageingTimer ∧ (requestWrite s).order = s.order ∧
    (requestWrite s).ladder = s.ladder ∧ (requestWrite s).tide = s.tide ∧ (requestWrite s).fouling = s.fouling ∧
    (requestWrite s).claims = s.claims ∧ (requestWrite s).screen = s.screen ∧ (requestWrite s).duty = s.duty ∧
    (requestWrite s).pump = s.pump ∧ (requestWrite s).conds = s.conds ∧ (requestWrite s).alarms = s.alarms ∧
    (requestWrite s).link = s.link ∧ (requestWrite s).loader.phase = s.loader.phase ∧
    (requestWrite s).loader.bay = s.loader.bay ∧ (requestWrite s).loader.cfg = s.loader.cfg ∧
    (requestWrite s).loader.mark = s.loader.mark ∧ (requestWrite s).loader.window = s.loader.window ∧
    (requestWrite s).loader.pollCount = s.loader.pollCount ∧ (requestWrite s).loader.pollTimer = s.loader.pollTimer := by
  unfold requestWrite
  try dsimp only
  repeat' split
  all_goals simp

@[simp] theorem endWrite_frame (s : State) :
    (endWrite s).pending = s.pending ∧ (endWrite s).choices = s.choices ∧ (endWrite s).inReset = s.inReset ∧
    (endWrite s).clock = s.clock ∧ (endWrite s).lines = s.lines ∧ (endWrite s).front = s.front ∧
    (endWrite s).peers = s.peers ∧ (endWrite s).ageingTimer = s.ageingTimer ∧ (endWrite s).order = s.order ∧
    (endWrite s).ladder = s.ladder ∧ (endWrite s).tide = s.tide ∧ (endWrite s).fouling = s.fouling ∧
    (endWrite s).claims = s.claims ∧ (endWrite s).screen = s.screen ∧ (endWrite s).duty = s.duty ∧
    (endWrite s).pump = s.pump ∧ (endWrite s).conds = s.conds ∧ (endWrite s).alarms = s.alarms ∧
    (endWrite s).link = s.link ∧ (endWrite s).loader.phase = s.loader.phase ∧ (endWrite s).loader.bay = s.loader.bay ∧
    (endWrite s).loader.cfg = s.loader.cfg ∧ (endWrite s).loader.mark = s.loader.mark ∧
    (endWrite s).loader.window = s.loader.window ∧ (endWrite s).loader.pollCount = s.loader.pollCount := by
  unfold endWrite
  try dsimp only
  repeat' split
  all_goals simp

/-! ### The screen controller -/

@[simp] theorem setDrive_frame (x : Ctx) (d : Drive) (s : State) :
    (setDrive x d s).pending = s.pending ∧ (setDrive x d s).choices = s.choices ∧ (setDrive x d s).inReset = s.inReset ∧
    (setDrive x d s).clock = s.clock ∧ (setDrive x d s).lines = s.lines ∧ (setDrive x d s).front = s.front ∧
    (setDrive x d s).peers = s.peers ∧ (setDrive x d s).ageingTimer = s.ageingTimer ∧ (setDrive x d s).order = s.order ∧
    (setDrive x d s).ladder = s.ladder ∧ (setDrive x d s).tide = s.tide ∧ (setDrive x d s).fouling = s.fouling ∧
    (setDrive x d s).claims = s.claims ∧ (setDrive x d s).duty = s.duty ∧ (setDrive x d s).pump = s.pump ∧
    (setDrive x d s).conds = s.conds ∧ (setDrive x d s).alarms = s.alarms ∧ (setDrive x d s).link = s.link ∧
    (setDrive x d s).loader = s.loader := by
  unfold setDrive
  try dsimp only
  repeat' split
  all_goals simp

@[simp] theorem selectDrive_frame (x : Ctx) (s : State) :
    (selectDrive x s).pending = s.pending ∧ (selectDrive x s).choices = s.choices ∧ (selectDrive x s).inReset = s.inReset ∧
    (selectDrive x s).clock = s.clock ∧ (selectDrive x s).lines = s.lines ∧ (selectDrive x s).front = s.front ∧
    (selectDrive x s).peers = s.peers ∧ (selectDrive x s).ageingTimer = s.ageingTimer ∧ (selectDrive x s).order = s.order ∧
    (selectDrive x s).ladder = s.ladder ∧ (selectDrive x s).tide = s.tide ∧ (selectDrive x s).fouling = s.fouling ∧
    (selectDrive x s).claims = s.claims ∧ (selectDrive x s).duty = s.duty ∧ (selectDrive x s).pump = s.pump ∧
    (selectDrive x s).conds = s.conds ∧ (selectDrive x s).alarms = s.alarms ∧ (selectDrive x s).link = s.link ∧
    (selectDrive x s).loader = s.loader := by
  simp [selectDrive]

@[simp] theorem sprayOn_frame (x : Ctx) (s : State) :
    (sprayOn x s).pending = s.pending ∧ (sprayOn x s).choices = s.choices ∧ (sprayOn x s).inReset = s.inReset ∧
    (sprayOn x s).clock = s.clock ∧ (sprayOn x s).lines = s.lines ∧ (sprayOn x s).front = s.front ∧
    (sprayOn x s).peers = s.peers ∧ (sprayOn x s).ageingTimer = s.ageingTimer ∧ (sprayOn x s).order = s.order ∧
    (sprayOn x s).ladder = s.ladder ∧ (sprayOn x s).tide = s.tide ∧ (sprayOn x s).fouling = s.fouling ∧
    (sprayOn x s).claims = s.claims ∧ (sprayOn x s).duty = s.duty ∧ (sprayOn x s).pump = s.pump ∧
    (sprayOn x s).conds = s.conds ∧ (sprayOn x s).alarms = s.alarms ∧ (sprayOn x s).link = s.link ∧
    (sprayOn x s).loader = s.loader := by
  unfold sprayOn
  try dsimp only
  repeat' split
  all_goals simp

@[simp] theorem sprayOff_frame (s : State) :
    (sprayOff s).pending = s.pending ∧ (sprayOff s).choices = s.choices ∧ (sprayOff s).inReset = s.inReset ∧
    (sprayOff s).clock = s.clock ∧ (sprayOff s).lines = s.lines ∧ (sprayOff s).front = s.front ∧
    (sprayOff s).peers = s.peers ∧ (sprayOff s).ageingTimer = s.ageingTimer ∧ (sprayOff s).order = s.order ∧
    (sprayOff s).ladder = s.ladder ∧ (sprayOff s).tide = s.tide ∧ (sprayOff s).fouling = s.fouling ∧
    (sprayOff s).claims = s.claims ∧ (sprayOff s).duty = s.duty ∧ (sprayOff s).pump = s.pump ∧
    (sprayOff s).conds = s.conds ∧ (sprayOff s).alarms = s.alarms ∧ (sprayOff s).link = s.link ∧
    (sprayOff s).loader = s.loader := by
  simp [sprayOff]

@[simp] theorem stopCycle_frame (s : State) :
    (stopCycle s).pending = s.pending ∧ (stopCycle s).choices = s.choices ∧ (stopCycle s).inReset = s.inReset ∧
    (stopCycle s).clock = s.clock ∧ (stopCycle s).lines = s.lines ∧ (stopCycle s).front = s.front ∧
    (stopCycle s).peers = s.peers ∧ (stopCycle s).ageingTimer = s.ageingTimer ∧ (stopCycle s).order = s.order ∧
    (stopCycle s).ladder = s.ladder ∧ (stopCycle s).tide = s.tide ∧ (stopCycle s).fouling = s.fouling ∧
    (stopCycle s).claims = s.claims ∧ (stopCycle s).duty = s.duty ∧ (stopCycle s).pump = s.pump ∧
    (stopCycle s).conds = s.conds ∧ (stopCycle s).alarms = s.alarms ∧ (stopCycle s).link = s.link ∧
    (stopCycle s).loader = s.loader := by
  simp [stopCycle]

@[simp] theorem stopWashing_frame (s : State) :
    (stopWashing s).pending = s.pending ∧ (stopWashing s).choices = s.choices ∧ (stopWashing s).inReset = s.inReset ∧
    (stopWashing s).clock = s.clock ∧ (stopWashing s).lines = s.lines ∧ (stopWashing s).front = s.front ∧
    (stopWashing s).peers = s.peers ∧ (stopWashing s).ageingTimer = s.ageingTimer ∧ (stopWashing s).order = s.order ∧
    (stopWashing s).ladder = s.ladder ∧ (stopWashing s).tide = s.tide ∧ (stopWashing s).fouling = s.fouling ∧
    (stopWashing s).claims = s.claims ∧ (stopWashing s).duty = s.duty ∧ (stopWashing s).pump = s.pump ∧
    (stopWashing s).conds = s.conds ∧ (stopWashing s).alarms = s.alarms ∧ (stopWashing s).link = s.link ∧
    (stopWashing s).loader = s.loader := by
  simp [stopWashing]

@[simp] theorem setWash_frame (x : Ctx) (w : WashState) (s : State) :
    (setWash x w s).pending = s.pending ∧ (setWash x w s).choices = s.choices ∧ (setWash x w s).inReset = s.inReset ∧
    (setWash x w s).clock = s.clock ∧ (setWash x w s).lines = s.lines ∧ (setWash x w s).front = s.front ∧
    (setWash x w s).peers = s.peers ∧ (setWash x w s).ageingTimer = s.ageingTimer ∧ (setWash x w s).order = s.order ∧
    (setWash x w s).ladder = s.ladder ∧ (setWash x w s).tide = s.tide ∧ (setWash x w s).fouling = s.fouling ∧
    (setWash x w s).claims = s.claims ∧ (setWash x w s).duty = s.duty ∧ (setWash x w s).pump = s.pump ∧
    (setWash x w s).conds = s.conds ∧ (setWash x w s).alarms = s.alarms ∧ (setWash x w s).loader = s.loader := by
  unfold setWash
  try dsimp only
  repeat' split
  all_goals simp

@[simp] theorem releaseClaim_frame (x : Ctx) (s : State) :
    (releaseClaim x s).pending = s.pending ∧ (releaseClaim x s).choices = s.choices ∧
    (releaseClaim x s).inReset = s.inReset ∧ (releaseClaim x s).clock = s.clock ∧ (releaseClaim x s).lines = s.lines ∧
    (releaseClaim x s).front = s.front ∧ (releaseClaim x s).peers = s.peers ∧
    (releaseClaim x s).ageingTimer = s.ageingTimer ∧ (releaseClaim x s).order = s.order ∧
    (releaseClaim x s).ladder = s.ladder ∧ (releaseClaim x s).tide = s.tide ∧ (releaseClaim x s).fouling = s.fouling ∧
    (releaseClaim x s).claims = s.claims ∧ (releaseClaim x s).duty = s.duty ∧ (releaseClaim x s).pump = s.pump ∧
    (releaseClaim x s).conds = s.conds ∧ (releaseClaim x s).alarms = s.alarms ∧ (releaseClaim x s).loader = s.loader := by
  simp [releaseClaim]

@[simp] theorem startCycleTimer_frame (s : State) :
    (startCycleTimer s).pending = s.pending ∧ (startCycleTimer s).choices = s.choices ∧
    (startCycleTimer s).inReset = s.inReset ∧ (startCycleTimer s).clock = s.clock ∧ (startCycleTimer s).lines = s.lines ∧
    (startCycleTimer s).front = s.front ∧ (startCycleTimer s).peers = s.peers ∧
    (startCycleTimer s).ageingTimer = s.ageingTimer ∧ (startCycleTimer s).order = s.order ∧
    (startCycleTimer s).ladder = s.ladder ∧ (startCycleTimer s).tide = s.tide ∧ (startCycleTimer s).fouling = s.fouling ∧
    (startCycleTimer s).claims = s.claims ∧ (startCycleTimer s).duty = s.duty ∧ (startCycleTimer s).pump = s.pump ∧
    (startCycleTimer s).conds = s.conds ∧ (startCycleTimer s).alarms = s.alarms ∧ (startCycleTimer s).link = s.link ∧
    (startCycleTimer s).loader = s.loader := by
  simp [startCycleTimer]

/-- A fresh cycle leaves the timer as it was set. -/
@[simp] theorem freshCycle_cycleTimer (x : Ctx) (s : State) : (freshCycle x s).screen.cycleTimer = s.screen.cycleTimer := by
  unfold freshCycle sprayOn
  dsimp only
  repeat' split
  all_goals rfl

@[simp] theorem freshCycle_frame (x : Ctx) (s : State) :
    (freshCycle x s).pending = s.pending ∧ (freshCycle x s).choices = s.choices ∧ (freshCycle x s).inReset = s.inReset ∧
    (freshCycle x s).clock = s.clock ∧ (freshCycle x s).lines = s.lines ∧ (freshCycle x s).front = s.front ∧
    (freshCycle x s).peers = s.peers ∧ (freshCycle x s).ageingTimer = s.ageingTimer ∧ (freshCycle x s).order = s.order ∧
    (freshCycle x s).ladder = s.ladder ∧ (freshCycle x s).tide = s.tide ∧ (freshCycle x s).fouling = s.fouling ∧
    (freshCycle x s).claims = s.claims ∧ (freshCycle x s).duty = s.duty ∧ (freshCycle x s).pump = s.pump ∧
    (freshCycle x s).conds = s.conds ∧ (freshCycle x s).alarms = s.alarms ∧ (freshCycle x s).link = s.link ∧
    (freshCycle x s).loader = s.loader := by
  unfold freshCycle
  try dsimp only
  repeat' split
  all_goals simp

@[simp] theorem loadWorking_frame (x : Ctx) (s : State) :
    (loadWorking x s).pending = s.pending ∧ (loadWorking x s).choices = s.choices ∧ (loadWorking x s).inReset = s.inReset ∧
    (loadWorking x s).clock = s.clock ∧ (loadWorking x s).lines = s.lines ∧ (loadWorking x s).front = s.front ∧
    (loadWorking x s).peers = s.peers ∧ (loadWorking x s).ageingTimer = s.ageingTimer ∧ (loadWorking x s).order = s.order ∧
    (loadWorking x s).ladder = s.ladder ∧ (loadWorking x s).tide = s.tide ∧ (loadWorking x s).fouling = s.fouling ∧
    (loadWorking x s).claims = s.claims ∧ (loadWorking x s).duty = s.duty ∧ (loadWorking x s).pump = s.pump ∧
    (loadWorking x s).conds = s.conds ∧ (loadWorking x s).alarms = s.alarms ∧ (loadWorking x s).link = s.link ∧
    (loadWorking x s).loader = s.loader := by
  simp [loadWorking]

@[simp] theorem continueWash_frame (x : Ctx) (s : State) :
    (continueWash x s).pending = s.pending ∧ (continueWash x s).choices = s.choices ∧
    (continueWash x s).inReset = s.inReset ∧ (continueWash x s).clock = s.clock ∧ (continueWash x s).lines = s.lines ∧
    (continueWash x s).front = s.front ∧ (continueWash x s).peers = s.peers ∧
    (continueWash x s).ageingTimer = s.ageingTimer ∧ (continueWash x s).order = s.order ∧
    (continueWash x s).ladder = s.ladder ∧ (continueWash x s).tide = s.tide ∧ (continueWash x s).fouling = s.fouling ∧
    (continueWash x s).claims = s.claims ∧ (continueWash x s).duty = s.duty ∧ (continueWash x s).pump = s.pump ∧
    (continueWash x s).conds = s.conds ∧ (continueWash x s).alarms = s.alarms ∧ (continueWash x s).loader = s.loader := by
  unfold continueWash
  try dsimp only
  repeat' split
  all_goals simp

@[simp] theorem enterWashing_frame (x : Ctx) (s : State) :
    (enterWashing x s).pending = s.pending ∧ (enterWashing x s).choices = s.choices ∧
    (enterWashing x s).inReset = s.inReset ∧ (enterWashing x s).clock = s.clock ∧ (enterWashing x s).lines = s.lines ∧
    (enterWashing x s).front = s.front ∧ (enterWashing x s).peers = s.peers ∧
    (enterWashing x s).ageingTimer = s.ageingTimer ∧ (enterWashing x s).order = s.order ∧
    (enterWashing x s).ladder = s.ladder ∧ (enterWashing x s).tide = s.tide ∧ (enterWashing x s).fouling = s.fouling ∧
    (enterWashing x s).claims = s.claims ∧ (enterWashing x s).duty = s.duty ∧ (enterWashing x s).pump = s.pump ∧
    (enterWashing x s).conds = s.conds ∧ (enterWashing x s).alarms = s.alarms ∧ (enterWashing x s).loader = s.loader := by
  simp [enterWashing]

@[simp] theorem yieldWash_frame (x : Ctx) (s : State) :
    (yieldWash x s).pending = s.pending ∧ (yieldWash x s).choices = s.choices ∧ (yieldWash x s).inReset = s.inReset ∧
    (yieldWash x s).clock = s.clock ∧ (yieldWash x s).lines = s.lines ∧ (yieldWash x s).front = s.front ∧
    (yieldWash x s).peers = s.peers ∧ (yieldWash x s).ageingTimer = s.ageingTimer ∧ (yieldWash x s).order = s.order ∧
    (yieldWash x s).ladder = s.ladder ∧ (yieldWash x s).tide = s.tide ∧ (yieldWash x s).fouling = s.fouling ∧
    (yieldWash x s).claims = s.claims ∧ (yieldWash x s).duty = s.duty ∧ (yieldWash x s).pump = s.pump ∧
    (yieldWash x s).conds = s.conds ∧ (yieldWash x s).alarms = s.alarms ∧ (yieldWash x s).loader = s.loader := by
  simp [yieldWash]

@[simp] theorem handStanding_frame (x : Ctx) (st : Standing) (s : State) :
    (handStanding x st s).pending = s.pending ∧ (handStanding x st s).choices = s.choices ∧
    (handStanding x st s).inReset = s.inReset ∧ (handStanding x st s).clock = s.clock ∧
    (handStanding x st s).lines = s.lines ∧ (handStanding x st s).front = s.front ∧ (handStanding x st s).peers = s.peers ∧
    (handStanding x st s).ageingTimer = s.ageingTimer ∧ (handStanding x st s).order = s.order ∧
    (handStanding x st s).ladder = s.ladder ∧ (handStanding x st s).tide = s.tide ∧
    (handStanding x st s).fouling = s.fouling ∧ (handStanding x st s).claims = s.claims ∧
    (handStanding x st s).duty = s.duty ∧ (handStanding x st s).pump = s.pump ∧ (handStanding x st s).conds = s.conds ∧
    (handStanding x st s).alarms = s.alarms ∧ (handStanding x st s).loader = s.loader := by
  unfold handStanding
  try dsimp only
  repeat' split
  all_goals simp

@[simp] theorem washEnd_frame (x : Ctx) (s : State) :
    (washEnd x s).pending = s.pending ∧ (washEnd x s).choices = s.choices ∧ (washEnd x s).inReset = s.inReset ∧
    (washEnd x s).clock = s.clock ∧ (washEnd x s).lines = s.lines ∧ (washEnd x s).front = s.front ∧
    (washEnd x s).peers = s.peers ∧ (washEnd x s).ageingTimer = s.ageingTimer ∧ (washEnd x s).order = s.order ∧
    (washEnd x s).ladder = s.ladder ∧ (washEnd x s).tide = s.tide ∧ (washEnd x s).fouling = s.fouling ∧
    (washEnd x s).claims = s.claims ∧ (washEnd x s).duty = s.duty ∧ (washEnd x s).pump = s.pump ∧
    (washEnd x s).conds = s.conds ∧ (washEnd x s).alarms = s.alarms ∧ (washEnd x s).loader = s.loader := by
  unfold washEnd
  try dsimp only
  repeat' split
  all_goals simp

@[simp] theorem claimDropped_frame (x : Ctx) (s : State) :
    (claimDropped x s).pending = s.pending ∧ (claimDropped x s).choices = s.choices ∧
    (claimDropped x s).inReset = s.inReset ∧ (claimDropped x s).clock = s.clock ∧ (claimDropped x s).lines = s.lines ∧
    (claimDropped x s).front = s.front ∧ (claimDropped x s).peers = s.peers ∧
    (claimDropped x s).ageingTimer = s.ageingTimer ∧ (claimDropped x s).order = s.order ∧
    (claimDropped x s).ladder = s.ladder ∧ (claimDropped x s).tide = s.tide ∧ (claimDropped x s).fouling = s.fouling ∧
    (claimDropped x s).claims = s.claims ∧ (claimDropped x s).duty = s.duty ∧ (claimDropped x s).pump = s.pump ∧
    (claimDropped x s).conds = s.conds ∧ (claimDropped x s).alarms = s.alarms ∧ (claimDropped x s).loader = s.loader := by
  unfold claimDropped
  try dsimp only
  repeat' split
  all_goals simp

@[simp] theorem abortWash_frame (x : Ctx) (s : State) :
    (abortWash x s).pending = s.pending ∧ (abortWash x s).choices = s.choices ∧ (abortWash x s).inReset = s.inReset ∧
    (abortWash x s).clock = s.clock ∧ (abortWash x s).lines = s.lines ∧ (abortWash x s).front = s.front ∧
    (abortWash x s).peers = s.peers ∧ (abortWash x s).ageingTimer = s.ageingTimer ∧ (abortWash x s).order = s.order ∧
    (abortWash x s).ladder = s.ladder ∧ (abortWash x s).tide = s.tide ∧ (abortWash x s).fouling = s.fouling ∧
    (abortWash x s).claims = s.claims ∧ (abortWash x s).duty = s.duty ∧ (abortWash x s).pump = s.pump ∧
    (abortWash x s).conds = s.conds ∧ (abortWash x s).alarms = s.alarms ∧ (abortWash x s).loader = s.loader := by
  unfold abortWash
  try dsimp only
  repeat' split
  all_goals simp

@[simp] theorem conflictAtScreen_frame (x : Ctx) (s : State) :
    (conflictAtScreen x s).pending = s.pending ∧ (conflictAtScreen x s).choices = s.choices ∧
    (conflictAtScreen x s).inReset = s.inReset ∧ (conflictAtScreen x s).clock = s.clock ∧
    (conflictAtScreen x s).lines = s.lines ∧ (conflictAtScreen x s).front = s.front ∧
    (conflictAtScreen x s).peers = s.peers ∧ (conflictAtScreen x s).ageingTimer = s.ageingTimer ∧
    (conflictAtScreen x s).order = s.order ∧ (conflictAtScreen x s).ladder = s.ladder ∧
    (conflictAtScreen x s).tide = s.tide ∧ (conflictAtScreen x s).fouling = s.fouling ∧
    (conflictAtScreen x s).claims = s.claims ∧ (conflictAtScreen x s).duty = s.duty ∧
    (conflictAtScreen x s).pump = s.pump ∧ (conflictAtScreen x s).conds = s.conds ∧
    (conflictAtScreen x s).alarms = s.alarms ∧ (conflictAtScreen x s).loader = s.loader := by
  simp [conflictAtScreen]

@[simp] theorem makeClaim_frame (x : Ctx) (k : ClaimClass) (s : State) :
    (makeClaim x k s).pending = s.pending ∧ (makeClaim x k s).choices = s.choices ∧ (makeClaim x k s).inReset = s.inReset ∧
    (makeClaim x k s).clock = s.clock ∧ (makeClaim x k s).lines = s.lines ∧ (makeClaim x k s).front = s.front ∧
    (makeClaim x k s).peers = s.peers ∧ (makeClaim x k s).ageingTimer = s.ageingTimer ∧ (makeClaim x k s).order = s.order ∧
    (makeClaim x k s).ladder = s.ladder ∧ (makeClaim x k s).tide = s.tide ∧ (makeClaim x k s).fouling = s.fouling ∧
    (makeClaim x k s).claims = s.claims ∧ (makeClaim x k s).duty = s.duty ∧ (makeClaim x k s).pump = s.pump ∧
    (makeClaim x k s).conds = s.conds ∧ (makeClaim x k s).alarms = s.alarms ∧ (makeClaim x k s).loader = s.loader := by
  simp [makeClaim]

@[simp] theorem triggerCheck_frame (x : Ctx) (e : TriggerEvent) (s : State) :
    (triggerCheck x e s).pending = s.pending ∧ (triggerCheck x e s).choices = s.choices ∧
    (triggerCheck x e s).inReset = s.inReset ∧ (triggerCheck x e s).clock = s.clock ∧
    (triggerCheck x e s).lines = s.lines ∧ (triggerCheck x e s).front = s.front ∧ (triggerCheck x e s).peers = s.peers ∧
    (triggerCheck x e s).ageingTimer = s.ageingTimer ∧ (triggerCheck x e s).order = s.order ∧
    (triggerCheck x e s).ladder = s.ladder ∧ (triggerCheck x e s).tide = s.tide ∧
    (triggerCheck x e s).fouling = s.fouling ∧ (triggerCheck x e s).claims = s.claims ∧
    (triggerCheck x e s).duty = s.duty ∧ (triggerCheck x e s).pump = s.pump ∧ (triggerCheck x e s).conds = s.conds ∧
    (triggerCheck x e s).alarms = s.alarms ∧ (triggerCheck x e s).loader = s.loader := by
  unfold triggerCheck
  try dsimp only
  repeat' split
  all_goals simp

@[simp] theorem stallRises_frame (x : Ctx) (s : State) :
    (stallRises x s).pending = s.pending ∧ (stallRises x s).choices = s.choices ∧ (stallRises x s).inReset = s.inReset ∧
    (stallRises x s).clock = s.clock ∧ (stallRises x s).lines = s.lines ∧ (stallRises x s).front = s.front ∧
    (stallRises x s).peers = s.peers ∧ (stallRises x s).ageingTimer = s.ageingTimer ∧ (stallRises x s).order = s.order ∧
    (stallRises x s).ladder = s.ladder ∧ (stallRises x s).tide = s.tide ∧ (stallRises x s).fouling = s.fouling ∧
    (stallRises x s).claims = s.claims ∧ (stallRises x s).duty = s.duty ∧ (stallRises x s).pump = s.pump ∧
    (stallRises x s).loader = s.loader := by
  unfold stallRises
  try dsimp only
  repeat' split
  all_goals simp

@[simp] theorem ackAtScreen_frame (x : Ctx) (s : State) :
    (ackAtScreen x s).pending = s.pending ∧ (ackAtScreen x s).choices = s.choices ∧ (ackAtScreen x s).inReset = s.inReset ∧
    (ackAtScreen x s).clock = s.clock ∧ (ackAtScreen x s).lines = s.lines ∧ (ackAtScreen x s).front = s.front ∧
    (ackAtScreen x s).peers = s.peers ∧ (ackAtScreen x s).ageingTimer = s.ageingTimer ∧ (ackAtScreen x s).order = s.order ∧
    (ackAtScreen x s).ladder = s.ladder ∧ (ackAtScreen x s).tide = s.tide ∧ (ackAtScreen x s).fouling = s.fouling ∧
    (ackAtScreen x s).claims = s.claims ∧ (ackAtScreen x s).duty = s.duty ∧ (ackAtScreen x s).pump = s.pump ∧
    (ackAtScreen x s).loader = s.loader := by
  unfold ackAtScreen
  try dsimp only
  repeat' split
  all_goals simp

@[simp] theorem headerFails_frame (x : Ctx) (s : State) :
    (headerFails x s).pending = s.pending ∧ (headerFails x s).choices = s.choices ∧ (headerFails x s).inReset = s.inReset ∧
    (headerFails x s).clock = s.clock ∧ (headerFails x s).lines = s.lines ∧ (headerFails x s).front = s.front ∧
    (headerFails x s).peers = s.peers ∧ (headerFails x s).ageingTimer = s.ageingTimer ∧ (headerFails x s).order = s.order ∧
    (headerFails x s).ladder = s.ladder ∧ (headerFails x s).tide = s.tide ∧ (headerFails x s).fouling = s.fouling ∧
    (headerFails x s).claims = s.claims ∧ (headerFails x s).duty = s.duty ∧ (headerFails x s).pump = s.pump ∧
    (headerFails x s).loader = s.loader := by
  simp [headerFails]

@[simp] theorem cycleEnd_frame (x : Ctx) (s : State) :
    (cycleEnd x s).pending = s.pending ∧ (cycleEnd x s).choices = s.choices ∧ (cycleEnd x s).inReset = s.inReset ∧
    (cycleEnd x s).clock = s.clock ∧ (cycleEnd x s).lines = s.lines ∧ (cycleEnd x s).front = s.front ∧
    (cycleEnd x s).peers = s.peers ∧ (cycleEnd x s).ageingTimer = s.ageingTimer ∧ (cycleEnd x s).order = s.order ∧
    (cycleEnd x s).ladder = s.ladder ∧ (cycleEnd x s).tide = s.tide ∧ (cycleEnd x s).fouling = s.fouling ∧
    (cycleEnd x s).claims = s.claims ∧ (cycleEnd x s).duty = s.duty ∧ (cycleEnd x s).pump = s.pump ∧
    (cycleEnd x s).conds = s.conds ∧ (cycleEnd x s).alarms = s.alarms ∧ (cycleEnd x s).loader = s.loader := by
  simp [cycleEnd]

@[simp] theorem cycleStep_frame (x : Ctx) (s : State) :
    (cycleStep x s).pending = s.pending ∧ (cycleStep x s).choices = s.choices ∧ (cycleStep x s).inReset = s.inReset ∧
    (cycleStep x s).clock = s.clock ∧ (cycleStep x s).lines = s.lines ∧ (cycleStep x s).front = s.front ∧
    (cycleStep x s).peers = s.peers ∧ (cycleStep x s).ageingTimer = s.ageingTimer ∧ (cycleStep x s).order = s.order ∧
    (cycleStep x s).ladder = s.ladder ∧ (cycleStep x s).tide = s.tide ∧ (cycleStep x s).fouling = s.fouling ∧
    (cycleStep x s).claims = s.claims ∧ (cycleStep x s).duty = s.duty ∧ (cycleStep x s).pump = s.pump ∧
    (cycleStep x s).conds = s.conds ∧ (cycleStep x s).alarms = s.alarms ∧ (cycleStep x s).loader = s.loader := by
  unfold cycleStep
  try dsimp only
  repeat' split
  all_goals simp

@[simp] theorem prescaledEdge_frame (x : Ctx) (s : State) :
    (prescaledEdge x s).pending = s.pending ∧ (prescaledEdge x s).choices = s.choices ∧
    (prescaledEdge x s).inReset = s.inReset ∧ (prescaledEdge x s).clock = s.clock ∧ (prescaledEdge x s).lines = s.lines ∧
    (prescaledEdge x s).front = s.front ∧ (prescaledEdge x s).peers = s.peers ∧
    (prescaledEdge x s).ageingTimer = s.ageingTimer ∧ (prescaledEdge x s).order = s.order ∧
    (prescaledEdge x s).ladder = s.ladder ∧ (prescaledEdge x s).tide = s.tide ∧ (prescaledEdge x s).fouling = s.fouling ∧
    (prescaledEdge x s).claims = s.claims ∧ (prescaledEdge x s).duty = s.duty ∧ (prescaledEdge x s).pump = s.pump ∧
    (prescaledEdge x s).conds = s.conds ∧ (prescaledEdge x s).alarms = s.alarms ∧ (prescaledEdge x s).link = s.link ∧
    (prescaledEdge x s).loader = s.loader := by
  unfold prescaledEdge
  try dsimp only
  repeat' split
  all_goals simp

@[simp] theorem shaftRises_frame (x : Ctx) (s : State) :
    (shaftRises x s).pending = s.pending ∧ (shaftRises x s).choices = s.choices ∧ (shaftRises x s).inReset = s.inReset ∧
    (shaftRises x s).clock = s.clock ∧ (shaftRises x s).lines = s.lines ∧ (shaftRises x s).front = s.front ∧
    (shaftRises x s).peers = s.peers ∧ (shaftRises x s).ageingTimer = s.ageingTimer ∧ (shaftRises x s).order = s.order ∧
    (shaftRises x s).ladder = s.ladder ∧ (shaftRises x s).tide = s.tide ∧ (shaftRises x s).fouling = s.fouling ∧
    (shaftRises x s).claims = s.claims ∧ (shaftRises x s).duty = s.duty ∧ (shaftRises x s).pump = s.pump ∧
    (shaftRises x s).conds = s.conds ∧ (shaftRises x s).alarms = s.alarms ∧ (shaftRises x s).link = s.link ∧
    (shaftRises x s).loader = s.loader := by
  unfold shaftRises
  try dsimp only
  repeat' split
  all_goals simp

/-! ### The claim list -/

@[simp] theorem changeList_frame (x : Ctx) (l : List Claim) (s : State) :
    (changeList x l s).pending = s.pending ∧ (changeList x l s).choices = s.choices ∧
    (changeList x l s).inReset = s.inReset ∧ (changeList x l s).clock = s.clock ∧ (changeList x l s).lines = s.lines ∧
    (changeList x l s).front = s.front ∧ (changeList x l s).peers = s.peers ∧
    (changeList x l s).ageingTimer = s.ageingTimer ∧ (changeList x l s).order = s.order ∧
    (changeList x l s).ladder = s.ladder ∧ (changeList x l s).tide = s.tide ∧ (changeList x l s).fouling = s.fouling ∧
    (changeList x l s).duty = s.duty ∧ (changeList x l s).pump = s.pump ∧ (changeList x l s).conds = s.conds ∧
    (changeList x l s).alarms = s.alarms ∧ (changeList x l s).loader = s.loader := by
  unfold changeList
  try dsimp only
  repeat' split
  all_goals simp

@[simp] theorem insertClaim_frame (x : Ctx) (b : Bay) (tag : Nat) (k : ClaimClass) (d : Nat) (s : State) :
    (insertClaim x b tag k d s).pending = s.pending ∧ (insertClaim x b tag k d s).choices = s.choices ∧
    (insertClaim x b tag k d s).inReset = s.inReset ∧ (insertClaim x b tag k d s).clock = s.clock ∧
    (insertClaim x b tag k d s).lines = s.lines ∧ (insertClaim x b tag k d s).front = s.front ∧
    (insertClaim x b tag k d s).peers = s.peers ∧ (insertClaim x b tag k d s).ageingTimer = s.ageingTimer ∧
    (insertClaim x b tag k d s).order = s.order ∧ (insertClaim x b tag k d s).ladder = s.ladder ∧
    (insertClaim x b tag k d s).tide = s.tide ∧ (insertClaim x b tag k d s).fouling = s.fouling ∧
    (insertClaim x b tag k d s).duty = s.duty ∧ (insertClaim x b tag k d s).pump = s.pump ∧
    (insertClaim x b tag k d s).conds = s.conds ∧ (insertClaim x b tag k d s).alarms = s.alarms ∧
    (insertClaim x b tag k d s).loader = s.loader := by
  simp [insertClaim]

@[simp] theorem removeClaim_frame (x : Ctx) (b : Bay) (s : State) :
    (removeClaim x b s).pending = s.pending ∧ (removeClaim x b s).choices = s.choices ∧
    (removeClaim x b s).inReset = s.inReset ∧ (removeClaim x b s).clock = s.clock ∧ (removeClaim x b s).lines = s.lines ∧
    (removeClaim x b s).front = s.front ∧ (removeClaim x b s).peers = s.peers ∧
    (removeClaim x b s).ageingTimer = s.ageingTimer ∧ (removeClaim x b s).order = s.order ∧
    (removeClaim x b s).ladder = s.ladder ∧ (removeClaim x b s).tide = s.tide ∧ (removeClaim x b s).fouling = s.fouling ∧
    (removeClaim x b s).duty = s.duty ∧ (removeClaim x b s).pump = s.pump ∧ (removeClaim x b s).conds = s.conds ∧
    (removeClaim x b s).alarms = s.alarms ∧ (removeClaim x b s).loader = s.loader := by
  unfold removeClaim
  try dsimp only
  repeat' split
  all_goals simp

@[simp] theorem removeReleased_frame (x : Ctx) (b : Bay) (tag : Nat) (s : State) :
    (removeReleased x b tag s).pending = s.pending ∧ (removeReleased x b tag s).choices = s.choices ∧
    (removeReleased x b tag s).inReset = s.inReset ∧ (removeReleased x b tag s).clock = s.clock ∧
    (removeReleased x b tag s).lines = s.lines ∧ (removeReleased x b tag s).front = s.front ∧
    (removeReleased x b tag s).peers = s.peers ∧ (removeReleased x b tag s).ageingTimer = s.ageingTimer ∧
    (removeReleased x b tag s).order = s.order ∧ (removeReleased x b tag s).ladder = s.ladder ∧
    (removeReleased x b tag s).tide = s.tide ∧ (removeReleased x b tag s).fouling = s.fouling ∧
    (removeReleased x b tag s).duty = s.duty ∧ (removeReleased x b tag s).pump = s.pump ∧
    (removeReleased x b tag s).conds = s.conds ∧ (removeReleased x b tag s).alarms = s.alarms ∧
    (removeReleased x b tag s).loader = s.loader := by
  unfold removeReleased
  try dsimp only
  repeat' split
  all_goals simp

@[simp] theorem stripForeign_frame (x : Ctx) (s : State) :
    (stripForeign x s).pending = s.pending ∧ (stripForeign x s).choices = s.choices ∧
    (stripForeign x s).inReset = s.inReset ∧ (stripForeign x s).clock = s.clock ∧ (stripForeign x s).lines = s.lines ∧
    (stripForeign x s).front = s.front ∧ (stripForeign x s).peers = s.peers ∧
    (stripForeign x s).ageingTimer = s.ageingTimer ∧ (stripForeign x s).order = s.order ∧
    (stripForeign x s).ladder = s.ladder ∧ (stripForeign x s).tide = s.tide ∧ (stripForeign x s).fouling = s.fouling ∧
    (stripForeign x s).duty = s.duty ∧ (stripForeign x s).pump = s.pump ∧ (stripForeign x s).conds = s.conds ∧
    (stripForeign x s).alarms = s.alarms ∧ (stripForeign x s).loader = s.loader := by
  simp [stripForeign]

@[simp] theorem repairFromStatus_frame (x : Ctx) (b : Bay) (r : Report) (s : State) :
    (repairFromStatus x b r s).pending = s.pending ∧ (repairFromStatus x b r s).choices = s.choices ∧
    (repairFromStatus x b r s).inReset = s.inReset ∧ (repairFromStatus x b r s).clock = s.clock ∧
    (repairFromStatus x b r s).lines = s.lines ∧ (repairFromStatus x b r s).front = s.front ∧
    (repairFromStatus x b r s).peers = s.peers ∧ (repairFromStatus x b r s).ageingTimer = s.ageingTimer ∧
    (repairFromStatus x b r s).order = s.order ∧ (repairFromStatus x b r s).ladder = s.ladder ∧
    (repairFromStatus x b r s).tide = s.tide ∧ (repairFromStatus x b r s).fouling = s.fouling ∧
    (repairFromStatus x b r s).duty = s.duty ∧ (repairFromStatus x b r s).pump = s.pump ∧
    (repairFromStatus x b r s).conds = s.conds ∧ (repairFromStatus x b r s).alarms = s.alarms ∧
    (repairFromStatus x b r s).loader = s.loader := by
  unfold repairFromStatus
  try dsimp only
  repeat' split
  all_goals simp

/-! ### The pump controller and the duty ranker -/

@[simp] theorem addMinute_frame (s : State) :
    (addMinute s).pending = s.pending ∧ (addMinute s).choices = s.choices ∧ (addMinute s).inReset = s.inReset ∧
    (addMinute s).clock = s.clock ∧ (addMinute s).lines = s.lines ∧ (addMinute s).front = s.front ∧
    (addMinute s).peers = s.peers ∧ (addMinute s).ageingTimer = s.ageingTimer ∧ (addMinute s).order = s.order ∧
    (addMinute s).ladder = s.ladder ∧ (addMinute s).tide = s.tide ∧ (addMinute s).fouling = s.fouling ∧
    (addMinute s).claims = s.claims ∧ (addMinute s).screen = s.screen ∧ (addMinute s).duty = s.duty ∧
    (addMinute s).conds = s.conds ∧ (addMinute s).alarms = s.alarms ∧ (addMinute s).link = s.link ∧
    (addMinute s).loader.phase = s.loader.phase ∧ (addMinute s).loader.bay = s.loader.bay ∧
    (addMinute s).loader.cfg = s.loader.cfg ∧ (addMinute s).loader.mark = s.loader.mark ∧
    (addMinute s).loader.window = s.loader.window := by
  unfold addMinute
  try dsimp only
  repeat' split
  all_goals simp

@[simp] theorem startMinutes_frame (s : State) :
    (startMinutes s).pending = s.pending ∧ (startMinutes s).choices = s.choices ∧ (startMinutes s).inReset = s.inReset ∧
    (startMinutes s).clock = s.clock ∧ (startMinutes s).lines = s.lines ∧ (startMinutes s).front = s.front ∧
    (startMinutes s).peers = s.peers ∧ (startMinutes s).ageingTimer = s.ageingTimer ∧ (startMinutes s).order = s.order ∧
    (startMinutes s).ladder = s.ladder ∧ (startMinutes s).tide = s.tide ∧ (startMinutes s).fouling = s.fouling ∧
    (startMinutes s).claims = s.claims ∧ (startMinutes s).screen = s.screen ∧ (startMinutes s).duty = s.duty ∧
    (startMinutes s).conds = s.conds ∧ (startMinutes s).alarms = s.alarms ∧ (startMinutes s).link = s.link ∧
    (startMinutes s).loader = s.loader := by
  simp [startMinutes]

@[simp] theorem stopMinutes_frame (s : State) :
    (stopMinutes s).pending = s.pending ∧ (stopMinutes s).choices = s.choices ∧ (stopMinutes s).inReset = s.inReset ∧
    (stopMinutes s).clock = s.clock ∧ (stopMinutes s).lines = s.lines ∧ (stopMinutes s).front = s.front ∧
    (stopMinutes s).peers = s.peers ∧ (stopMinutes s).ageingTimer = s.ageingTimer ∧ (stopMinutes s).order = s.order ∧
    (stopMinutes s).ladder = s.ladder ∧ (stopMinutes s).tide = s.tide ∧ (stopMinutes s).fouling = s.fouling ∧
    (stopMinutes s).claims = s.claims ∧ (stopMinutes s).screen = s.screen ∧ (stopMinutes s).duty = s.duty ∧
    (stopMinutes s).conds = s.conds ∧ (stopMinutes s).alarms = s.alarms ∧ (stopMinutes s).link = s.link ∧
    (stopMinutes s).loader.phase = s.loader.phase ∧ (stopMinutes s).loader.bay = s.loader.bay ∧
    (stopMinutes s).loader.cfg = s.loader.cfg ∧ (stopMinutes s).loader.mark = s.loader.mark ∧
    (stopMinutes s).loader.window = s.loader.window := by
  unfold stopMinutes
  try dsimp only
  repeat' split
  all_goals simp

@[simp] theorem countedChanged_frame (x : Ctx) (s : State) :
    (countedChanged x s).pending = s.pending ∧ (countedChanged x s).choices = s.choices ∧
    (countedChanged x s).inReset = s.inReset ∧ (countedChanged x s).clock = s.clock ∧
    (countedChanged x s).lines = s.lines ∧ (countedChanged x s).front = s.front ∧ (countedChanged x s).peers = s.peers ∧
    (countedChanged x s).ageingTimer = s.ageingTimer ∧ (countedChanged x s).order = s.order ∧
    (countedChanged x s).ladder = s.ladder ∧ (countedChanged x s).tide = s.tide ∧ (countedChanged x s).claims = s.claims ∧
    (countedChanged x s).screen = s.screen ∧ (countedChanged x s).duty = s.duty ∧ (countedChanged x s).conds = s.conds ∧
    (countedChanged x s).alarms = s.alarms ∧ (countedChanged x s).link = s.link ∧
    (countedChanged x s).loader.phase = s.loader.phase ∧ (countedChanged x s).loader.bay = s.loader.bay ∧
    (countedChanged x s).loader.cfg = s.loader.cfg ∧ (countedChanged x s).loader.mark = s.loader.mark ∧
    (countedChanged x s).loader.window = s.loader.window := by
  unfold countedChanged
  try dsimp only
  repeat' split
  all_goals simp

@[simp] theorem noteCounted_frame (x : Ctx) (was : Bool) (s : State) :
    (noteCounted x was s).pending = s.pending ∧ (noteCounted x was s).choices = s.choices ∧
    (noteCounted x was s).inReset = s.inReset ∧ (noteCounted x was s).clock = s.clock ∧
    (noteCounted x was s).lines = s.lines ∧ (noteCounted x was s).front = s.front ∧ (noteCounted x was s).peers = s.peers ∧
    (noteCounted x was s).ageingTimer = s.ageingTimer ∧ (noteCounted x was s).order = s.order ∧
    (noteCounted x was s).ladder = s.ladder ∧ (noteCounted x was s).tide = s.tide ∧
    (noteCounted x was s).claims = s.claims ∧ (noteCounted x was s).screen = s.screen ∧
    (noteCounted x was s).duty = s.duty ∧ (noteCounted x was s).conds = s.conds ∧ (noteCounted x was s).alarms = s.alarms ∧
    (noteCounted x was s).link = s.link ∧ (noteCounted x was s).loader.phase = s.loader.phase ∧
    (noteCounted x was s).loader.bay = s.loader.bay ∧ (noteCounted x was s).loader.cfg = s.loader.cfg ∧
    (noteCounted x was s).loader.mark = s.loader.mark ∧ (noteCounted x was s).loader.window = s.loader.window := by
  unfold noteCounted
  try dsimp only
  repeat' split
  all_goals simp

@[simp] theorem setPump_frame (x : Ctx) (p : PumpState) (s : State) :
    (setPump x p s).pending = s.pending ∧ (setPump x p s).choices = s.choices ∧ (setPump x p s).inReset = s.inReset ∧
    (setPump x p s).clock = s.clock ∧ (setPump x p s).lines = s.lines ∧ (setPump x p s).front = s.front ∧
    (setPump x p s).peers = s.peers ∧ (setPump x p s).ageingTimer = s.ageingTimer ∧ (setPump x p s).order = s.order ∧
    (setPump x p s).ladder = s.ladder ∧ (setPump x p s).tide = s.tide ∧ (setPump x p s).claims = s.claims ∧
    (setPump x p s).screen = s.screen ∧ (setPump x p s).duty = s.duty ∧ (setPump x p s).loader.phase = s.loader.phase ∧
    (setPump x p s).loader.bay = s.loader.bay ∧ (setPump x p s).loader.cfg = s.loader.cfg ∧
    (setPump x p s).loader.mark = s.loader.mark ∧ (setPump x p s).loader.window = s.loader.window := by
  unfold setPump
  try dsimp only
  repeat' split
  all_goals simp

@[simp] theorem issuePulse_frame (x : Ctx) (p : Pulse) (s : State) :
    (issuePulse x p s).pending = s.pending ∧ (issuePulse x p s).choices = s.choices ∧
    (issuePulse x p s).inReset = s.inReset ∧ (issuePulse x p s).clock = s.clock ∧ (issuePulse x p s).lines = s.lines ∧
    (issuePulse x p s).front = s.front ∧ (issuePulse x p s).peers = s.peers ∧
    (issuePulse x p s).ageingTimer = s.ageingTimer ∧ (issuePulse x p s).order = s.order ∧
    (issuePulse x p s).ladder = s.ladder ∧ (issuePulse x p s).tide = s.tide ∧ (issuePulse x p s).fouling = s.fouling ∧
    (issuePulse x p s).claims = s.claims ∧ (issuePulse x p s).screen = s.screen ∧ (issuePulse x p s).duty = s.duty ∧
    (issuePulse x p s).conds = s.conds ∧ (issuePulse x p s).alarms = s.alarms ∧ (issuePulse x p s).link = s.link ∧
    (issuePulse x p s).loader = s.loader := by
  simp [issuePulse]

@[simp] theorem cutPulse_frame (s : State) :
    (cutPulse s).pending = s.pending ∧ (cutPulse s).choices = s.choices ∧ (cutPulse s).inReset = s.inReset ∧
    (cutPulse s).clock = s.clock ∧ (cutPulse s).lines = s.lines ∧ (cutPulse s).front = s.front ∧
    (cutPulse s).peers = s.peers ∧ (cutPulse s).ageingTimer = s.ageingTimer ∧ (cutPulse s).order = s.order ∧
    (cutPulse s).ladder = s.ladder ∧ (cutPulse s).tide = s.tide ∧ (cutPulse s).fouling = s.fouling ∧
    (cutPulse s).claims = s.claims ∧ (cutPulse s).screen = s.screen ∧ (cutPulse s).duty = s.duty ∧
    (cutPulse s).conds = s.conds ∧ (cutPulse s).alarms = s.alarms ∧ (cutPulse s).link = s.link ∧
    (cutPulse s).loader = s.loader := by
  simp [cutPulse]

@[simp] theorem stopSupervision_frame (s : State) :
    (stopSupervision s).pending = s.pending ∧ (stopSupervision s).choices = s.choices ∧
    (stopSupervision s).inReset = s.inReset ∧ (stopSupervision s).clock = s.clock ∧ (stopSupervision s).lines = s.lines ∧
    (stopSupervision s).front = s.front ∧ (stopSupervision s).peers = s.peers ∧
    (stopSupervision s).ageingTimer = s.ageingTimer ∧ (stopSupervision s).order = s.order ∧
    (stopSupervision s).ladder = s.ladder ∧ (stopSupervision s).tide = s.tide ∧ (stopSupervision s).fouling = s.fouling ∧
    (stopSupervision s).claims = s.claims ∧ (stopSupervision s).screen = s.screen ∧ (stopSupervision s).duty = s.duty ∧
    (stopSupervision s).conds = s.conds ∧ (stopSupervision s).alarms = s.alarms ∧ (stopSupervision s).link = s.link ∧
    (stopSupervision s).loader = s.loader := by
  simp [stopSupervision]

@[simp] theorem enterStopped_frame (x : Ctx) (s : State) :
    (enterStopped x s).pending = s.pending ∧ (enterStopped x s).choices = s.choices ∧
    (enterStopped x s).inReset = s.inReset ∧ (enterStopped x s).clock = s.clock ∧ (enterStopped x s).lines = s.lines ∧
    (enterStopped x s).front = s.front ∧ (enterStopped x s).peers = s.peers ∧
    (enterStopped x s).ageingTimer = s.ageingTimer ∧ (enterStopped x s).order = s.order ∧
    (enterStopped x s).ladder = s.ladder ∧ (enterStopped x s).tide = s.tide ∧ (enterStopped x s).claims = s.claims ∧
    (enterStopped x s).screen = s.screen ∧ (enterStopped x s).duty = s.duty ∧
    (enterStopped x s).loader.phase = s.loader.phase ∧ (enterStopped x s).loader.bay = s.loader.bay ∧
    (enterStopped x s).loader.cfg = s.loader.cfg ∧ (enterStopped x s).loader.mark = s.loader.mark ∧
    (enterStopped x s).loader.window = s.loader.window := by
  simp [enterStopped]

@[simp] theorem enterStopping_frame (x : Ctx) (s : State) :
    (enterStopping x s).pending = s.pending ∧ (enterStopping x s).choices = s.choices ∧
    (enterStopping x s).inReset = s.inReset ∧ (enterStopping x s).clock = s.clock ∧ (enterStopping x s).lines = s.lines ∧
    (enterStopping x s).front = s.front ∧ (enterStopping x s).peers = s.peers ∧
    (enterStopping x s).ageingTimer = s.ageingTimer ∧ (enterStopping x s).order = s.order ∧
    (enterStopping x s).ladder = s.ladder ∧ (enterStopping x s).tide = s.tide ∧ (enterStopping x s).claims = s.claims ∧
    (enterStopping x s).screen = s.screen ∧ (enterStopping x s).duty = s.duty ∧
    (enterStopping x s).loader.phase = s.loader.phase ∧ (enterStopping x s).loader.bay = s.loader.bay ∧
    (enterStopping x s).loader.cfg = s.loader.cfg ∧ (enterStopping x s).loader.mark = s.loader.mark ∧
    (enterStopping x s).loader.window = s.loader.window := by
  simp [enterStopping]

@[simp] theorem protectOnEntry_frame (x : Ctx) (s : State) :
    (protectOnEntry x s).pending = s.pending ∧ (protectOnEntry x s).choices = s.choices ∧
    (protectOnEntry x s).inReset = s.inReset ∧ (protectOnEntry x s).clock = s.clock ∧
    (protectOnEntry x s).lines = s.lines ∧ (protectOnEntry x s).front = s.front ∧ (protectOnEntry x s).peers = s.peers ∧
    (protectOnEntry x s).ageingTimer = s.ageingTimer ∧ (protectOnEntry x s).order = s.order ∧
    (protectOnEntry x s).ladder = s.ladder ∧ (protectOnEntry x s).tide = s.tide ∧ (protectOnEntry x s).claims = s.claims ∧
    (protectOnEntry x s).screen = s.screen ∧ (protectOnEntry x s).duty = s.duty ∧
    (protectOnEntry x s).loader.phase = s.loader.phase ∧ (protectOnEntry x s).loader.bay = s.loader.bay ∧
    (protectOnEntry x s).loader.cfg = s.loader.cfg ∧ (protectOnEntry x s).loader.mark = s.loader.mark ∧
    (protectOnEntry x s).loader.window = s.loader.window := by
  unfold protectOnEntry
  try dsimp only
  repeat' split
  all_goals simp

@[simp] theorem takeOverRunning_frame (x : Ctx) (s : State) :
    (takeOverRunning x s).pending = s.pending ∧ (takeOverRunning x s).choices = s.choices ∧
    (takeOverRunning x s).inReset = s.inReset ∧ (takeOverRunning x s).clock = s.clock ∧
    (takeOverRunning x s).lines = s.lines ∧ (takeOverRunning x s).front = s.front ∧ (takeOverRunning x s).peers = s.peers ∧
    (takeOverRunning x s).ageingTimer = s.ageingTimer ∧ (takeOverRunning x s).order = s.order ∧
    (takeOverRunning x s).ladder = s.ladder ∧ (takeOverRunning x s).tide = s.tide ∧
    (takeOverRunning x s).claims = s.claims ∧ (takeOverRunning x s).screen = s.screen ∧
    (takeOverRunning x s).duty = s.duty ∧ (takeOverRunning x s).loader.phase = s.loader.phase ∧
    (takeOverRunning x s).loader.bay = s.loader.bay ∧ (takeOverRunning x s).loader.cfg = s.loader.cfg ∧
    (takeOverRunning x s).loader.mark = s.loader.mark ∧ (takeOverRunning x s).loader.window = s.loader.window := by
  simp [takeOverRunning]

@[simp] theorem enterRunning_frame (x : Ctx) (s : State) :
    (enterRunning x s).pending = s.pending ∧ (enterRunning x s).choices = s.choices ∧
    (enterRunning x s).inReset = s.inReset ∧ (enterRunning x s).clock = s.clock ∧ (enterRunning x s).lines = s.lines ∧
    (enterRunning x s).front = s.front ∧ (enterRunning x s).peers = s.peers ∧
    (enterRunning x s).ageingTimer = s.ageingTimer ∧ (enterRunning x s).order = s.order ∧
    (enterRunning x s).ladder = s.ladder ∧ (enterRunning x s).tide = s.tide ∧ (enterRunning x s).claims = s.claims ∧
    (enterRunning x s).screen = s.screen ∧ (enterRunning x s).duty = s.duty ∧
    (enterRunning x s).loader.phase = s.loader.phase ∧ (enterRunning x s).loader.bay = s.loader.bay ∧
    (enterRunning x s).loader.cfg = s.loader.cfg ∧ (enterRunning x s).loader.mark = s.loader.mark ∧
    (enterRunning x s).loader.window = s.loader.window := by
  simp [enterRunning]

@[simp] theorem enterFailed_frame (x : Ctx) (s : State) :
    (enterFailed x s).pending = s.pending ∧ (enterFailed x s).choices = s.choices ∧ (enterFailed x s).inReset = s.inReset ∧
    (enterFailed x s).clock = s.clock ∧ (enterFailed x s).lines = s.lines ∧ (enterFailed x s).front = s.front ∧
    (enterFailed x s).peers = s.peers ∧ (enterFailed x s).ageingTimer = s.ageingTimer ∧ (enterFailed x s).order = s.order ∧
    (enterFailed x s).ladder = s.ladder ∧ (enterFailed x s).tide = s.tide ∧ (enterFailed x s).claims = s.claims ∧
    (enterFailed x s).screen = s.screen ∧ (enterFailed x s).duty = s.duty ∧
    (enterFailed x s).loader.phase = s.loader.phase ∧ (enterFailed x s).loader.bay = s.loader.bay ∧
    (enterFailed x s).loader.cfg = s.loader.cfg ∧ (enterFailed x s).loader.mark = s.loader.mark ∧
    (enterFailed x s).loader.window = s.loader.window := by
  simp [enterFailed]

@[simp] theorem enterTripped_frame (x : Ctx) (s : State) :
    (enterTripped x s).pending = s.pending ∧ (enterTripped x s).choices = s.choices ∧
    (enterTripped x s).inReset = s.inReset ∧ (enterTripped x s).clock = s.clock ∧ (enterTripped x s).lines = s.lines ∧
    (enterTripped x s).front = s.front ∧ (enterTripped x s).peers = s.peers ∧
    (enterTripped x s).ageingTimer = s.ageingTimer ∧ (enterTripped x s).order = s.order ∧
    (enterTripped x s).ladder = s.ladder ∧ (enterTripped x s).tide = s.tide ∧ (enterTripped x s).claims = s.claims ∧
    (enterTripped x s).screen = s.screen ∧ (enterTripped x s).duty = s.duty ∧
    (enterTripped x s).loader.phase = s.loader.phase ∧ (enterTripped x s).loader.bay = s.loader.bay ∧
    (enterTripped x s).loader.cfg = s.loader.cfg ∧ (enterTripped x s).loader.mark = s.loader.mark ∧
    (enterTripped x s).loader.window = s.loader.window := by
  simp [enterTripped]

@[simp] theorem enterLocked_frame (x : Ctx) (s : State) :
    (enterLocked x s).pending = s.pending ∧ (enterLocked x s).choices = s.choices ∧ (enterLocked x s).inReset = s.inReset ∧
    (enterLocked x s).clock = s.clock ∧ (enterLocked x s).lines = s.lines ∧ (enterLocked x s).front = s.front ∧
    (enterLocked x s).peers = s.peers ∧ (enterLocked x s).ageingTimer = s.ageingTimer ∧ (enterLocked x s).order = s.order ∧
    (enterLocked x s).ladder = s.ladder ∧ (enterLocked x s).tide = s.tide ∧ (enterLocked x s).claims = s.claims ∧
    (enterLocked x s).screen = s.screen ∧ (enterLocked x s).duty = s.duty ∧
    (enterLocked x s).loader.phase = s.loader.phase ∧ (enterLocked x s).loader.bay = s.loader.bay ∧
    (enterLocked x s).loader.cfg = s.loader.cfg ∧ (enterLocked x s).loader.mark = s.loader.mark ∧
    (enterLocked x s).loader.window = s.loader.window := by
  simp [enterLocked]

@[simp] theorem withdrawStart_frame (x : Ctx) (cause : Cause) (s : State) :
    (withdrawStart x cause s).pending = s.pending ∧ (withdrawStart x cause s).choices = s.choices ∧
    (withdrawStart x cause s).inReset = s.inReset ∧ (withdrawStart x cause s).clock = s.clock ∧
    (withdrawStart x cause s).lines = s.lines ∧ (withdrawStart x cause s).front = s.front ∧
    (withdrawStart x cause s).peers = s.peers ∧ (withdrawStart x cause s).ageingTimer = s.ageingTimer ∧
    (withdrawStart x cause s).order = s.order ∧ (withdrawStart x cause s).ladder = s.ladder ∧
    (withdrawStart x cause s).tide = s.tide ∧ (withdrawStart x cause s).claims = s.claims ∧
    (withdrawStart x cause s).screen = s.screen ∧ (withdrawStart x cause s).duty = s.duty ∧
    (withdrawStart x cause s).loader.phase = s.loader.phase ∧ (withdrawStart x cause s).loader.bay = s.loader.bay ∧
    (withdrawStart x cause s).loader.cfg = s.loader.cfg ∧ (withdrawStart x cause s).loader.mark = s.loader.mark ∧
    (withdrawStart x cause s).loader.window = s.loader.window := by
  simp [withdrawStart]

@[simp] theorem checkPending_frame (x : Ctx) (s : State) :
    (checkPending x s).pending = s.pending ∧ (checkPending x s).choices = s.choices ∧
    (checkPending x s).inReset = s.inReset ∧ (checkPending x s).clock = s.clock ∧ (checkPending x s).lines = s.lines ∧
    (checkPending x s).front = s.front ∧ (checkPending x s).peers = s.peers ∧
    (checkPending x s).ageingTimer = s.ageingTimer ∧ (checkPending x s).order = s.order ∧
    (checkPending x s).ladder = s.ladder ∧ (checkPending x s).tide = s.tide ∧ (checkPending x s).claims = s.claims ∧
    (checkPending x s).screen = s.screen ∧ (checkPending x s).duty = s.duty ∧
    (checkPending x s).loader.phase = s.loader.phase ∧ (checkPending x s).loader.bay = s.loader.bay ∧
    (checkPending x s).loader.cfg = s.loader.cfg ∧ (checkPending x s).loader.mark = s.loader.mark ∧
    (checkPending x s).loader.window = s.loader.window := by
  unfold checkPending
  try dsimp only
  repeat' split
  all_goals simp

@[simp] theorem protectiveStop_frame (x : Ctx) (cause : Cause) (s : State) :
    (protectiveStop x cause s).pending = s.pending ∧ (protectiveStop x cause s).choices = s.choices ∧
    (protectiveStop x cause s).inReset = s.inReset ∧ (protectiveStop x cause s).clock = s.clock ∧
    (protectiveStop x cause s).lines = s.lines ∧ (protectiveStop x cause s).front = s.front ∧
    (protectiveStop x cause s).peers = s.peers ∧ (protectiveStop x cause s).ageingTimer = s.ageingTimer ∧
    (protectiveStop x cause s).order = s.order ∧ (protectiveStop x cause s).ladder = s.ladder ∧
    (protectiveStop x cause s).tide = s.tide ∧ (protectiveStop x cause s).claims = s.claims ∧
    (protectiveStop x cause s).screen = s.screen ∧ (protectiveStop x cause s).duty = s.duty ∧
    (protectiveStop x cause s).loader.phase = s.loader.phase ∧ (protectiveStop x cause s).loader.bay = s.loader.bay ∧
    (protectiveStop x cause s).loader.cfg = s.loader.cfg ∧ (protectiveStop x cause s).loader.mark = s.loader.mark ∧
    (protectiveStop x cause s).loader.window = s.loader.window := by
  unfold protectiveStop
  try dsimp only
  repeat' split
  all_goals simp

@[simp] theorem recordStart_frame (s : State) :
    (recordStart s).pending = s.pending ∧ (recordStart s).choices = s.choices ∧ (recordStart s).inReset = s.inReset ∧
    (recordStart s).clock = s.clock ∧ (recordStart s).lines = s.lines ∧ (recordStart s).front = s.front ∧
    (recordStart s).peers = s.peers ∧ (recordStart s).ageingTimer = s.ageingTimer ∧ (recordStart s).order = s.order ∧
    (recordStart s).ladder = s.ladder ∧ (recordStart s).tide = s.tide ∧ (recordStart s).fouling = s.fouling ∧
    (recordStart s).claims = s.claims ∧ (recordStart s).screen = s.screen ∧ (recordStart s).duty = s.duty ∧
    (recordStart s).conds = s.conds ∧ (recordStart s).alarms = s.alarms ∧ (recordStart s).link = s.link ∧
    (recordStart s).loader = s.loader := by
  simp [recordStart]

@[simp] theorem dropOldestStart_frame (s : State) :
    (dropOldestStart s).pending = s.pending ∧ (dropOldestStart s).choices = s.choices ∧
    (dropOldestStart s).inReset = s.inReset ∧ (dropOldestStart s).clock = s.clock ∧ (dropOldestStart s).lines = s.lines ∧
    (dropOldestStart s).front = s.front ∧ (dropOldestStart s).peers = s.peers ∧
    (dropOldestStart s).ageingTimer = s.ageingTimer ∧ (dropOldestStart s).order = s.order ∧
    (dropOldestStart s).ladder = s.ladder ∧ (dropOldestStart s).tide = s.tide ∧ (dropOldestStart s).fouling = s.fouling ∧
    (dropOldestStart s).claims = s.claims ∧ (dropOldestStart s).screen = s.screen ∧ (dropOldestStart s).duty = s.duty ∧
    (dropOldestStart s).conds = s.conds ∧ (dropOldestStart s).alarms = s.alarms ∧ (dropOldestStart s).link = s.link ∧
    (dropOldestStart s).loader = s.loader := by
  unfold dropOldestStart
  try dsimp only
  repeat' split
  all_goals simp

@[simp] theorem enterStarting_frame (x : Ctx) (s : State) :
    (enterStarting x s).pending = s.pending ∧ (enterStarting x s).choices = s.choices ∧
    (enterStarting x s).inReset = s.inReset ∧ (enterStarting x s).clock = s.clock ∧ (enterStarting x s).lines = s.lines ∧
    (enterStarting x s).front = s.front ∧ (enterStarting x s).peers = s.peers ∧
    (enterStarting x s).ageingTimer = s.ageingTimer ∧ (enterStarting x s).order = s.order ∧
    (enterStarting x s).ladder = s.ladder ∧ (enterStarting x s).tide = s.tide ∧ (enterStarting x s).claims = s.claims ∧
    (enterStarting x s).screen = s.screen ∧ (enterStarting x s).duty = s.duty ∧
    (enterStarting x s).loader.phase = s.loader.phase ∧ (enterStarting x s).loader.bay = s.loader.bay ∧
    (enterStarting x s).loader.cfg = s.loader.cfg ∧ (enterStarting x s).loader.mark = s.loader.mark ∧
    (enterStarting x s).loader.window = s.loader.window := by
  simp [enterStarting]

@[simp] theorem comparePeer_frame (x : Ctx) (b : Bay) (r : Report) (s : State) :
    (comparePeer x b r s).pending = s.pending ∧ (comparePeer x b r s).choices = s.choices ∧
    (comparePeer x b r s).inReset = s.inReset ∧ (comparePeer x b r s).clock = s.clock ∧
    (comparePeer x b r s).lines = s.lines ∧ (comparePeer x b r s).front = s.front ∧ (comparePeer x b r s).peers = s.peers ∧
    (comparePeer x b r s).ageingTimer = s.ageingTimer ∧ (comparePeer x b r s).order = s.order ∧
    (comparePeer x b r s).ladder = s.ladder ∧ (comparePeer x b r s).tide = s.tide ∧
    (comparePeer x b r s).claims = s.claims ∧ (comparePeer x b r s).screen = s.screen ∧
    (comparePeer x b r s).duty = s.duty ∧ (comparePeer x b r s).loader.phase = s.loader.phase ∧
    (comparePeer x b r s).loader.bay = s.loader.bay ∧ (comparePeer x b r s).loader.cfg = s.loader.cfg ∧
    (comparePeer x b r s).loader.mark = s.loader.mark ∧ (comparePeer x b r s).loader.window = s.loader.window := by
  unfold comparePeer
  try dsimp only
  repeat' split
  all_goals simp

@[simp] theorem comparePeers_frame (x : Ctx) (s : State) :
    (comparePeers x s).pending = s.pending ∧ (comparePeers x s).choices = s.choices ∧
    (comparePeers x s).inReset = s.inReset ∧ (comparePeers x s).clock = s.clock ∧ (comparePeers x s).lines = s.lines ∧
    (comparePeers x s).front = s.front ∧ (comparePeers x s).peers = s.peers ∧
    (comparePeers x s).ageingTimer = s.ageingTimer ∧ (comparePeers x s).order = s.order ∧
    (comparePeers x s).ladder = s.ladder ∧ (comparePeers x s).tide = s.tide ∧ (comparePeers x s).claims = s.claims ∧
    (comparePeers x s).screen = s.screen ∧ (comparePeers x s).duty = s.duty ∧
    (comparePeers x s).loader.phase = s.loader.phase ∧ (comparePeers x s).loader.bay = s.loader.bay ∧
    (comparePeers x s).loader.cfg = s.loader.cfg ∧ (comparePeers x s).loader.mark = s.loader.mark ∧
    (comparePeers x s).loader.window = s.loader.window := by
  unfold comparePeers
  exact ⟨foldl_keeps State.pending _ (fun t b => by split <;> simp) _ s,
    foldl_keeps State.choices _ (fun t b => by split <;> simp) _ s,
    foldl_keeps State.inReset _ (fun t b => by split <;> simp) _ s,
    foldl_keeps State.clock _ (fun t b => by split <;> simp) _ s,
    foldl_keeps State.lines _ (fun t b => by split <;> simp) _ s,
    foldl_keeps State.front _ (fun t b => by split <;> simp) _ s,
    foldl_keeps State.peers _ (fun t b => by split <;> simp) _ s,
    foldl_keeps State.ageingTimer _ (fun t b => by split <;> simp) _ s,
    foldl_keeps State.order _ (fun t b => by split <;> simp) _ s,
    foldl_keeps State.ladder _ (fun t b => by split <;> simp) _ s,
    foldl_keeps State.tide _ (fun t b => by split <;> simp) _ s,
    foldl_keeps State.claims _ (fun t b => by split <;> simp) _ s,
    foldl_keeps State.screen _ (fun t b => by split <;> simp) _ s,
    foldl_keeps State.duty _ (fun t b => by split <;> simp) _ s,
    foldl_keeps (fun t => t.loader.phase) _ (fun t b => by split <;> simp) _ s,
    foldl_keeps (fun t => t.loader.bay) _ (fun t b => by split <;> simp) _ s,
    foldl_keeps (fun t => t.loader.cfg) _ (fun t b => by split <;> simp) _ s,
    foldl_keeps (fun t => t.loader.mark) _ (fun t b => by split <;> simp) _ s,
    foldl_keeps (fun t => t.loader.window) _ (fun t b => by split <;> simp) _ s⟩

@[simp] theorem takeStartWish_frame (x : Ctx) (s : State) :
    (takeStartWish x s).pending = s.pending ∧ (takeStartWish x s).choices = s.choices ∧
    (takeStartWish x s).inReset = s.inReset ∧ (takeStartWish x s).clock = s.clock ∧ (takeStartWish x s).lines = s.lines ∧
    (takeStartWish x s).front = s.front ∧ (takeStartWish x s).peers = s.peers ∧
    (takeStartWish x s).ageingTimer = s.ageingTimer ∧ (takeStartWish x s).order = s.order ∧
    (takeStartWish x s).ladder = s.ladder ∧ (takeStartWish x s).tide = s.tide ∧ (takeStartWish x s).claims = s.claims ∧
    (takeStartWish x s).screen = s.screen ∧ (takeStartWish x s).duty = s.duty ∧
    (takeStartWish x s).loader.phase = s.loader.phase ∧ (takeStartWish x s).loader.bay = s.loader.bay ∧
    (takeStartWish x s).loader.cfg = s.loader.cfg ∧ (takeStartWish x s).loader.mark = s.loader.mark ∧
    (takeStartWish x s).loader.window = s.loader.window := by
  unfold takeStartWish
  try dsimp only
  repeat' split
  all_goals simp

@[simp] theorem takeStopWish_frame (x : Ctx) (s : State) :
    (takeStopWish x s).pending = s.pending ∧ (takeStopWish x s).choices = s.choices ∧
    (takeStopWish x s).inReset = s.inReset ∧ (takeStopWish x s).clock = s.clock ∧ (takeStopWish x s).lines = s.lines ∧
    (takeStopWish x s).front = s.front ∧ (takeStopWish x s).peers = s.peers ∧
    (takeStopWish x s).ageingTimer = s.ageingTimer ∧ (takeStopWish x s).order = s.order ∧
    (takeStopWish x s).ladder = s.ladder ∧ (takeStopWish x s).tide = s.tide ∧ (takeStopWish x s).claims = s.claims ∧
    (takeStopWish x s).screen = s.screen ∧ (takeStopWish x s).duty = s.duty ∧
    (takeStopWish x s).loader.phase = s.loader.phase ∧ (takeStopWish x s).loader.bay = s.loader.bay ∧
    (takeStopWish x s).loader.cfg = s.loader.cfg ∧ (takeStopWish x s).loader.mark = s.loader.mark ∧
    (takeStopWish x s).loader.window = s.loader.window := by
  unfold takeStopWish
  try dsimp only
  repeat' split
  all_goals simp

@[simp] theorem ackAtPump_frame (x : Ctx) (s : State) :
    (ackAtPump x s).pending = s.pending ∧ (ackAtPump x s).choices = s.choices ∧ (ackAtPump x s).inReset = s.inReset ∧
    (ackAtPump x s).clock = s.clock ∧ (ackAtPump x s).lines = s.lines ∧ (ackAtPump x s).front = s.front ∧
    (ackAtPump x s).peers = s.peers ∧ (ackAtPump x s).ageingTimer = s.ageingTimer ∧ (ackAtPump x s).order = s.order ∧
    (ackAtPump x s).ladder = s.ladder ∧ (ackAtPump x s).tide = s.tide ∧ (ackAtPump x s).claims = s.claims ∧
    (ackAtPump x s).screen = s.screen ∧ (ackAtPump x s).duty = s.duty ∧ (ackAtPump x s).loader.phase = s.loader.phase ∧
    (ackAtPump x s).loader.bay = s.loader.bay ∧ (ackAtPump x s).loader.cfg = s.loader.cfg ∧
    (ackAtPump x s).loader.mark = s.loader.mark ∧ (ackAtPump x s).loader.window = s.loader.window := by
  unfold ackAtPump
  try dsimp only
  repeat' split
  all_goals simp

@[simp] theorem isolatedAtPump_frame (x : Ctx) (s : State) :
    (isolatedAtPump x s).pending = s.pending ∧ (isolatedAtPump x s).choices = s.choices ∧
    (isolatedAtPump x s).inReset = s.inReset ∧ (isolatedAtPump x s).clock = s.clock ∧
    (isolatedAtPump x s).lines = s.lines ∧ (isolatedAtPump x s).front = s.front ∧ (isolatedAtPump x s).peers = s.peers ∧
    (isolatedAtPump x s).ageingTimer = s.ageingTimer ∧ (isolatedAtPump x s).order = s.order ∧
    (isolatedAtPump x s).ladder = s.ladder ∧ (isolatedAtPump x s).tide = s.tide ∧ (isolatedAtPump x s).claims = s.claims ∧
    (isolatedAtPump x s).screen = s.screen ∧ (isolatedAtPump x s).duty = s.duty ∧
    (isolatedAtPump x s).loader.phase = s.loader.phase ∧ (isolatedAtPump x s).loader.bay = s.loader.bay ∧
    (isolatedAtPump x s).loader.cfg = s.loader.cfg ∧ (isolatedAtPump x s).loader.mark = s.loader.mark ∧
    (isolatedAtPump x s).loader.window = s.loader.window := by
  unfold isolatedAtPump
  try dsimp only
  repeat' split
  all_goals simp

@[simp] theorem conflictAtPump_frame (x : Ctx) (s : State) :
    (conflictAtPump x s).pending = s.pending ∧ (conflictAtPump x s).choices = s.choices ∧
    (conflictAtPump x s).inReset = s.inReset ∧ (conflictAtPump x s).clock = s.clock ∧
    (conflictAtPump x s).lines = s.lines ∧ (conflictAtPump x s).front = s.front ∧ (conflictAtPump x s).peers = s.peers ∧
    (conflictAtPump x s).ageingTimer = s.ageingTimer ∧ (conflictAtPump x s).order = s.order ∧
    (conflictAtPump x s).ladder = s.ladder ∧ (conflictAtPump x s).tide = s.tide ∧ (conflictAtPump x s).claims = s.claims ∧
    (conflictAtPump x s).screen = s.screen ∧ (conflictAtPump x s).duty = s.duty ∧
    (conflictAtPump x s).loader.phase = s.loader.phase ∧ (conflictAtPump x s).loader.bay = s.loader.bay ∧
    (conflictAtPump x s).loader.cfg = s.loader.cfg ∧ (conflictAtPump x s).loader.mark = s.loader.mark ∧
    (conflictAtPump x s).loader.window = s.loader.window := by
  unfold conflictAtPump
  split <;> simp

@[simp] theorem runClosedInState_frame (x : Ctx) (s : State) :
    (runClosedInState x s).pending = s.pending ∧ (runClosedInState x s).choices = s.choices ∧
    (runClosedInState x s).inReset = s.inReset ∧ (runClosedInState x s).clock = s.clock ∧
    (runClosedInState x s).lines = s.lines ∧ (runClosedInState x s).front = s.front ∧
    (runClosedInState x s).peers = s.peers ∧ (runClosedInState x s).ageingTimer = s.ageingTimer ∧
    (runClosedInState x s).order = s.order ∧ (runClosedInState x s).ladder = s.ladder ∧
    (runClosedInState x s).tide = s.tide ∧ (runClosedInState x s).claims = s.claims ∧
    (runClosedInState x s).screen = s.screen ∧ (runClosedInState x s).duty = s.duty ∧
    (runClosedInState x s).loader.phase = s.loader.phase ∧ (runClosedInState x s).loader.bay = s.loader.bay ∧
    (runClosedInState x s).loader.cfg = s.loader.cfg ∧ (runClosedInState x s).loader.mark = s.loader.mark ∧
    (runClosedInState x s).loader.window = s.loader.window := by
  unfold runClosedInState
  try dsimp only
  repeat' split
  all_goals simp

@[simp] theorem runOpenedInState_frame (x : Ctx) (s : State) :
    (runOpenedInState x s).pending = s.pending ∧ (runOpenedInState x s).choices = s.choices ∧
    (runOpenedInState x s).inReset = s.inReset ∧ (runOpenedInState x s).clock = s.clock ∧
    (runOpenedInState x s).lines = s.lines ∧ (runOpenedInState x s).front = s.front ∧
    (runOpenedInState x s).peers = s.peers ∧ (runOpenedInState x s).ageingTimer = s.ageingTimer ∧
    (runOpenedInState x s).order = s.order ∧ (runOpenedInState x s).ladder = s.ladder ∧
    (runOpenedInState x s).tide = s.tide ∧ (runOpenedInState x s).claims = s.claims ∧
    (runOpenedInState x s).screen = s.screen ∧ (runOpenedInState x s).duty = s.duty ∧
    (runOpenedInState x s).loader.phase = s.loader.phase ∧ (runOpenedInState x s).loader.bay = s.loader.bay ∧
    (runOpenedInState x s).loader.cfg = s.loader.cfg ∧ (runOpenedInState x s).loader.mark = s.loader.mark ∧
    (runOpenedInState x s).loader.window = s.loader.window := by
  unfold runOpenedInState
  try dsimp only
  repeat' split
  all_goals simp

@[simp] theorem leaveLocked_frame (x : Ctx) (s : State) :
    (leaveLocked x s).pending = s.pending ∧ (leaveLocked x s).choices = s.choices ∧ (leaveLocked x s).inReset = s.inReset ∧
    (leaveLocked x s).clock = s.clock ∧ (leaveLocked x s).lines = s.lines ∧ (leaveLocked x s).front = s.front ∧
    (leaveLocked x s).peers = s.peers ∧ (leaveLocked x s).ageingTimer = s.ageingTimer ∧ (leaveLocked x s).order = s.order ∧
    (leaveLocked x s).ladder = s.ladder ∧ (leaveLocked x s).tide = s.tide ∧ (leaveLocked x s).claims = s.claims ∧
    (leaveLocked x s).screen = s.screen ∧ (leaveLocked x s).duty = s.duty ∧
    (leaveLocked x s).loader.phase = s.loader.phase ∧ (leaveLocked x s).loader.bay = s.loader.bay ∧
    (leaveLocked x s).loader.cfg = s.loader.cfg ∧ (leaveLocked x s).loader.mark = s.loader.mark ∧
    (leaveLocked x s).loader.window = s.loader.window := by
  unfold leaveLocked
  try dsimp only
  repeat' split
  all_goals simp

@[simp] theorem handWish_frame (x : Ctx) (s : State) :
    (handWish x s).pending = s.pending ∧ (handWish x s).choices = s.choices ∧ (handWish x s).inReset = s.inReset ∧
    (handWish x s).clock = s.clock ∧ (handWish x s).lines = s.lines ∧ (handWish x s).front = s.front ∧
    (handWish x s).peers = s.peers ∧ (handWish x s).ageingTimer = s.ageingTimer ∧ (handWish x s).order = s.order ∧
    (handWish x s).ladder = s.ladder ∧ (handWish x s).tide = s.tide ∧ (handWish x s).claims = s.claims ∧
    (handWish x s).screen = s.screen ∧ (handWish x s).duty = s.duty ∧ (handWish x s).loader.phase = s.loader.phase ∧
    (handWish x s).loader.bay = s.loader.bay ∧ (handWish x s).loader.cfg = s.loader.cfg ∧
    (handWish x s).loader.mark = s.loader.mark ∧ (handWish x s).loader.window = s.loader.window := by
  unfold handWish
  try dsimp only
  repeat' split
  all_goals simp

@[simp] theorem dutyStep_frame (x : Ctx) (s : State) :
    (dutyStep x s).pending = s.pending ∧ (dutyStep x s).choices = s.choices ∧ (dutyStep x s).inReset = s.inReset ∧
    (dutyStep x s).clock = s.clock ∧ (dutyStep x s).lines = s.lines ∧ (dutyStep x s).front = s.front ∧
    (dutyStep x s).peers = s.peers ∧ (dutyStep x s).ageingTimer = s.ageingTimer ∧ (dutyStep x s).order = s.order ∧
    (dutyStep x s).ladder = s.ladder ∧ (dutyStep x s).tide = s.tide ∧ (dutyStep x s).claims = s.claims ∧
    (dutyStep x s).screen = s.screen ∧ (dutyStep x s).loader.phase = s.loader.phase ∧
    (dutyStep x s).loader.bay = s.loader.bay ∧ (dutyStep x s).loader.cfg = s.loader.cfg ∧
    (dutyStep x s).loader.mark = s.loader.mark ∧ (dutyStep x s).loader.window = s.loader.window := by
  simp [dutyStep]

/-! ### The other blocks -/

@[simp] theorem blockedChanged_frame (x : Ctx) (v : Bool) (s : State) :
    (blockedChanged x v s).pending = s.pending ∧ (blockedChanged x v s).choices = s.choices ∧
    (blockedChanged x v s).inReset = s.inReset ∧ (blockedChanged x v s).clock = s.clock ∧
    (blockedChanged x v s).lines = s.lines ∧ (blockedChanged x v s).front = s.front ∧
    (blockedChanged x v s).peers = s.peers ∧ (blockedChanged x v s).ageingTimer = s.ageingTimer ∧
    (blockedChanged x v s).order = s.order ∧ (blockedChanged x v s).ladder = s.ladder ∧
    (blockedChanged x v s).tide = s.tide ∧ (blockedChanged x v s).claims = s.claims ∧
    (blockedChanged x v s).screen = s.screen ∧ (blockedChanged x v s).duty = s.duty ∧
    (blockedChanged x v s).loader.phase = s.loader.phase ∧ (blockedChanged x v s).loader.bay = s.loader.bay ∧
    (blockedChanged x v s).loader.cfg = s.loader.cfg ∧ (blockedChanged x v s).loader.mark = s.loader.mark ∧
    (blockedChanged x v s).loader.window = s.loader.window := by
  unfold blockedChanged
  try dsimp only
  repeat' split
  all_goals simp

@[simp] theorem foulingUpdate_frame (x : Ctx) (s : State) :
    (foulingUpdate x s).pending = s.pending ∧ (foulingUpdate x s).inReset = s.inReset ∧
    (foulingUpdate x s).clock = s.clock ∧ (foulingUpdate x s).lines = s.lines ∧ (foulingUpdate x s).front = s.front ∧
    (foulingUpdate x s).peers = s.peers ∧ (foulingUpdate x s).ageingTimer = s.ageingTimer ∧
    (foulingUpdate x s).order = s.order ∧ (foulingUpdate x s).ladder = s.ladder ∧ (foulingUpdate x s).tide = s.tide ∧
    (foulingUpdate x s).claims = s.claims ∧ (foulingUpdate x s).duty = s.duty ∧
    (foulingUpdate x s).loader.phase = s.loader.phase ∧ (foulingUpdate x s).loader.bay = s.loader.bay ∧
    (foulingUpdate x s).loader.cfg = s.loader.cfg ∧ (foulingUpdate x s).loader.mark = s.loader.mark ∧
    (foulingUpdate x s).loader.window = s.loader.window := by
  unfold foulingUpdate
  try unfold eitherOrder
  try dsimp only
  repeat' split
  all_goals simp

@[simp] theorem swarmChanged_frame (x : Ctx) (s : State) :
    (swarmChanged x s).pending = s.pending ∧ (swarmChanged x s).choices = s.choices ∧
    (swarmChanged x s).inReset = s.inReset ∧ (swarmChanged x s).clock = s.clock ∧ (swarmChanged x s).lines = s.lines ∧
    (swarmChanged x s).front = s.front ∧ (swarmChanged x s).peers = s.peers ∧
    (swarmChanged x s).ageingTimer = s.ageingTimer ∧ (swarmChanged x s).order = s.order ∧
    (swarmChanged x s).ladder = s.ladder ∧ (swarmChanged x s).tide = s.tide ∧ (swarmChanged x s).fouling = s.fouling ∧
    (swarmChanged x s).claims = s.claims ∧ (swarmChanged x s).duty = s.duty ∧ (swarmChanged x s).pump = s.pump ∧
    (swarmChanged x s).conds = s.conds ∧ (swarmChanged x s).alarms = s.alarms ∧ (swarmChanged x s).loader = s.loader := by
  unfold swarmChanged
  try dsimp only
  repeat' split
  all_goals simp

@[simp] theorem trendStep_frame (x : Ctx) (s : State) :
    (trendStep x s).pending = s.pending ∧ (trendStep x s).choices = s.choices ∧ (trendStep x s).inReset = s.inReset ∧
    (trendStep x s).clock = s.clock ∧ (trendStep x s).lines = s.lines ∧ (trendStep x s).front = s.front ∧
    (trendStep x s).peers = s.peers ∧ (trendStep x s).ageingTimer = s.ageingTimer ∧ (trendStep x s).order = s.order ∧
    (trendStep x s).ladder = s.ladder ∧ (trendStep x s).tide = s.tide ∧ (trendStep x s).claims = s.claims ∧
    (trendStep x s).duty = s.duty ∧ (trendStep x s).pump = s.pump ∧ (trendStep x s).conds = s.conds ∧
    (trendStep x s).alarms = s.alarms ∧ (trendStep x s).loader = s.loader := by
  unfold trendStep
  try dsimp only
  repeat' split
  all_goals simp

@[simp] theorem invalidateLane_frame (b : Bay) (s : State) :
    (invalidateLane b s).pending = s.pending ∧ (invalidateLane b s).choices = s.choices ∧
    (invalidateLane b s).inReset = s.inReset ∧ (invalidateLane b s).clock = s.clock ∧
    (invalidateLane b s).lines = s.lines ∧ (invalidateLane b s).front = s.front ∧ (invalidateLane b s).peers = s.peers ∧
    (invalidateLane b s).ageingTimer = s.ageingTimer ∧ (invalidateLane b s).order = s.order ∧
    (invalidateLane b s).ladder = s.ladder ∧ (invalidateLane b s).tide = s.tide ∧ (invalidateLane b s).claims = s.claims ∧
    (invalidateLane b s).screen = s.screen ∧ (invalidateLane b s).duty = s.duty ∧ (invalidateLane b s).pump = s.pump ∧
    (invalidateLane b s).conds = s.conds ∧ (invalidateLane b s).alarms = s.alarms ∧ (invalidateLane b s).link = s.link ∧
    (invalidateLane b s).loader = s.loader := by
  simp [invalidateLane]

@[simp] theorem sampledLoops_frame (x : Ctx) (outer inner : Nat) (s : State) :
    (sampledLoops x outer inner s).pending = s.pending ∧ (sampledLoops x outer inner s).choices = s.choices ∧
    (sampledLoops x outer inner s).inReset = s.inReset ∧ (sampledLoops x outer inner s).clock = s.clock ∧
    (sampledLoops x outer inner s).lines = s.lines ∧ (sampledLoops x outer inner s).peers = s.peers ∧
    (sampledLoops x outer inner s).ageingTimer = s.ageingTimer ∧ (sampledLoops x outer inner s).order = s.order ∧
    (sampledLoops x outer inner s).ladder = s.ladder ∧ (sampledLoops x outer inner s).tide = s.tide ∧
    (sampledLoops x outer inner s).fouling = s.fouling ∧ (sampledLoops x outer inner s).claims = s.claims ∧
    (sampledLoops x outer inner s).screen = s.screen ∧ (sampledLoops x outer inner s).duty = s.duty ∧
    (sampledLoops x outer inner s).pump = s.pump ∧ (sampledLoops x outer inner s).conds = s.conds ∧
    (sampledLoops x outer inner s).alarms = s.alarms ∧ (sampledLoops x outer inner s).link = s.link ∧
    (sampledLoops x outer inner s).loader = s.loader := by
  simp [sampledLoops]

@[simp] theorem suctionChanged_frame (x : Ctx) (v : Bool) (s : State) :
    (suctionChanged x v s).pending = s.pending ∧ (suctionChanged x v s).choices = s.choices ∧
    (suctionChanged x v s).inReset = s.inReset ∧ (suctionChanged x v s).clock = s.clock ∧
    (suctionChanged x v s).lines = s.lines ∧ (suctionChanged x v s).front = s.front ∧
    (suctionChanged x v s).peers = s.peers ∧ (suctionChanged x v s).ageingTimer = s.ageingTimer ∧
    (suctionChanged x v s).order = s.order ∧ (suctionChanged x v s).ladder = s.ladder ∧
    (suctionChanged x v s).tide = s.tide ∧ (suctionChanged x v s).claims = s.claims ∧
    (suctionChanged x v s).screen = s.screen ∧ (suctionChanged x v s).duty = s.duty ∧
    (suctionChanged x v s).loader.phase = s.loader.phase ∧ (suctionChanged x v s).loader.bay = s.loader.bay ∧
    (suctionChanged x v s).loader.cfg = s.loader.cfg ∧ (suctionChanged x v s).loader.mark = s.loader.mark ∧
    (suctionChanged x v s).loader.window = s.loader.window := by
  unfold suctionChanged
  try dsimp only
  repeat' split
  all_goals simp

@[simp] theorem deliverPair_frame (x : Ctx) (s : State) :
    (deliverPair x s).pending = s.pending ∧ (deliverPair x s).inReset = s.inReset ∧ (deliverPair x s).clock = s.clock ∧
    (deliverPair x s).lines = s.lines ∧ (deliverPair x s).front = s.front ∧ (deliverPair x s).peers = s.peers ∧
    (deliverPair x s).ageingTimer = s.ageingTimer ∧ (deliverPair x s).order = s.order ∧
    (deliverPair x s).ladder = s.ladder ∧ (deliverPair x s).tide = s.tide ∧ (deliverPair x s).claims = s.claims ∧
    (deliverPair x s).duty = s.duty ∧ (deliverPair x s).loader.phase = s.loader.phase ∧
    (deliverPair x s).loader.bay = s.loader.bay ∧ (deliverPair x s).loader.cfg = s.loader.cfg ∧
    (deliverPair x s).loader.mark = s.loader.mark ∧ (deliverPair x s).loader.window = s.loader.window := by
  unfold deliverPair
  try unfold eitherOrder
  try dsimp only
  repeat' split
  all_goals simp

@[simp] theorem sampleStep_frame (x : Ctx) (outer inner : Nat) (s : State) :
    (sampleStep x outer inner s).pending = s.pending ∧ (sampleStep x outer inner s).inReset = s.inReset ∧
    (sampleStep x outer inner s).clock = s.clock ∧ (sampleStep x outer inner s).lines = s.lines ∧
    (sampleStep x outer inner s).peers = s.peers ∧ (sampleStep x outer inner s).ageingTimer = s.ageingTimer ∧
    (sampleStep x outer inner s).order = s.order ∧ (sampleStep x outer inner s).ladder = s.ladder ∧
    (sampleStep x outer inner s).tide = s.tide ∧ (sampleStep x outer inner s).claims = s.claims ∧
    (sampleStep x outer inner s).duty = s.duty ∧ (sampleStep x outer inner s).loader.phase = s.loader.phase ∧
    (sampleStep x outer inner s).loader.bay = s.loader.bay ∧ (sampleStep x outer inner s).loader.cfg = s.loader.cfg ∧
    (sampleStep x outer inner s).loader.mark = s.loader.mark ∧ (sampleStep x outer inner s).loader.window = s.loader.window := by
  simp [sampleStep]

@[simp] theorem judgeSuspect_frame (x : Ctx) (s : State) :
    (judgeSuspect x s).pending = s.pending ∧ (judgeSuspect x s).choices = s.choices ∧
    (judgeSuspect x s).inReset = s.inReset ∧ (judgeSuspect x s).clock = s.clock ∧ (judgeSuspect x s).lines = s.lines ∧
    (judgeSuspect x s).front = s.front ∧ (judgeSuspect x s).peers = s.peers ∧
    (judgeSuspect x s).ageingTimer = s.ageingTimer ∧ (judgeSuspect x s).order = s.order ∧
    (judgeSuspect x s).ladder = s.ladder ∧ (judgeSuspect x s).fouling = s.fouling ∧ (judgeSuspect x s).claims = s.claims ∧
    (judgeSuspect x s).screen = s.screen ∧ (judgeSuspect x s).duty = s.duty ∧ (judgeSuspect x s).pump = s.pump ∧
    (judgeSuspect x s).conds = s.conds ∧ (judgeSuspect x s).alarms = s.alarms ∧ (judgeSuspect x s).link = s.link ∧
    (judgeSuspect x s).loader = s.loader := by
  unfold judgeSuspect
  try dsimp only
  repeat' split
  all_goals simp

@[simp] theorem formConsensus_frame (x : Ctx) (s : State) :
    (formConsensus x s).pending = s.pending ∧ (formConsensus x s).choices = s.choices ∧
    (formConsensus x s).inReset = s.inReset ∧ (formConsensus x s).clock = s.clock ∧ (formConsensus x s).lines = s.lines ∧
    (formConsensus x s).front = s.front ∧ (formConsensus x s).peers = s.peers ∧
    (formConsensus x s).ageingTimer = s.ageingTimer ∧ (formConsensus x s).order = s.order ∧
    (formConsensus x s).ladder = s.ladder ∧ (formConsensus x s).fouling = s.fouling ∧
    (formConsensus x s).claims = s.claims ∧ (formConsensus x s).screen = s.screen ∧ (formConsensus x s).duty = s.duty ∧
    (formConsensus x s).pump = s.pump ∧ (formConsensus x s).conds = s.conds ∧ (formConsensus x s).alarms = s.alarms ∧
    (formConsensus x s).link = s.link ∧ (formConsensus x s).loader = s.loader := by
  unfold formConsensus
  try dsimp only
  repeat' split
  all_goals simp

@[simp] theorem handTideConditions_frame (x : Ctx) (v : TideVerdict) (s : State) :
    (handTideConditions x v s).pending = s.pending ∧ (handTideConditions x v s).choices = s.choices ∧
    (handTideConditions x v s).inReset = s.inReset ∧ (handTideConditions x v s).clock = s.clock ∧
    (handTideConditions x v s).lines = s.lines ∧ (handTideConditions x v s).front = s.front ∧
    (handTideConditions x v s).peers = s.peers ∧ (handTideConditions x v s).ageingTimer = s.ageingTimer ∧
    (handTideConditions x v s).order = s.order ∧ (handTideConditions x v s).ladder = s.ladder ∧
    (handTideConditions x v s).tide = s.tide ∧ (handTideConditions x v s).fouling = s.fouling ∧
    (handTideConditions x v s).claims = s.claims ∧ (handTideConditions x v s).screen = s.screen ∧
    (handTideConditions x v s).duty = s.duty ∧ (handTideConditions x v s).pump = s.pump ∧
    (handTideConditions x v s).loader = s.loader := by
  simp [handTideConditions]

@[simp] theorem formOuterSensor_frame (x : Ctx) (s : State) :
    (formOuterSensor x s).pending = s.pending ∧ (formOuterSensor x s).choices = s.choices ∧
    (formOuterSensor x s).inReset = s.inReset ∧ (formOuterSensor x s).clock = s.clock ∧
    (formOuterSensor x s).lines = s.lines ∧ (formOuterSensor x s).front = s.front ∧ (formOuterSensor x s).peers = s.peers ∧
    (formOuterSensor x s).ageingTimer = s.ageingTimer ∧ (formOuterSensor x s).order = s.order ∧
    (formOuterSensor x s).ladder = s.ladder ∧ (formOuterSensor x s).tide = s.tide ∧
    (formOuterSensor x s).fouling = s.fouling ∧ (formOuterSensor x s).claims = s.claims ∧
    (formOuterSensor x s).screen = s.screen ∧ (formOuterSensor x s).duty = s.duty ∧ (formOuterSensor x s).pump = s.pump ∧
    (formOuterSensor x s).loader = s.loader := by
  simp [formOuterSensor]

@[simp] theorem tideStep_frame (x : Ctx) (s : State) :
    (tideStep x s).pending = s.pending ∧ (tideStep x s).choices = s.choices ∧ (tideStep x s).inReset = s.inReset ∧
    (tideStep x s).clock = s.clock ∧ (tideStep x s).lines = s.lines ∧ (tideStep x s).front = s.front ∧
    (tideStep x s).peers = s.peers ∧ (tideStep x s).ageingTimer = s.ageingTimer ∧ (tideStep x s).order = s.order ∧
    (tideStep x s).ladder = s.ladder ∧ (tideStep x s).fouling = s.fouling ∧ (tideStep x s).claims = s.claims ∧
    (tideStep x s).duty = s.duty ∧ (tideStep x s).pump = s.pump ∧ (tideStep x s).loader = s.loader := by
  unfold tideStep
  try dsimp only
  repeat' split
  all_goals simp

@[simp] theorem ackAtLoader_frame (x : Ctx) (s : State) :
    (ackAtLoader x s).pending = s.pending ∧ (ackAtLoader x s).choices = s.choices ∧ (ackAtLoader x s).inReset = s.inReset ∧
    (ackAtLoader x s).clock = s.clock ∧ (ackAtLoader x s).lines = s.lines ∧ (ackAtLoader x s).front = s.front ∧
    (ackAtLoader x s).peers = s.peers ∧ (ackAtLoader x s).ageingTimer = s.ageingTimer ∧ (ackAtLoader x s).order = s.order ∧
    (ackAtLoader x s).ladder = s.ladder ∧ (ackAtLoader x s).tide = s.tide ∧ (ackAtLoader x s).fouling = s.fouling ∧
    (ackAtLoader x s).claims = s.claims ∧ (ackAtLoader x s).screen = s.screen ∧ (ackAtLoader x s).duty = s.duty ∧
    (ackAtLoader x s).pump = s.pump ∧ (ackAtLoader x s).loader = s.loader := by
  simp [ackAtLoader]

@[simp] theorem ackEntries_frame (x : Ctx) (s : State) :
    (ackEntries x s).pending = s.pending ∧ (ackEntries x s).choices = s.choices ∧ (ackEntries x s).inReset = s.inReset ∧
    (ackEntries x s).clock = s.clock ∧ (ackEntries x s).lines = s.lines ∧ (ackEntries x s).front = s.front ∧
    (ackEntries x s).peers = s.peers ∧ (ackEntries x s).ageingTimer = s.ageingTimer ∧ (ackEntries x s).order = s.order ∧
    (ackEntries x s).ladder = s.ladder ∧ (ackEntries x s).tide = s.tide ∧ (ackEntries x s).fouling = s.fouling ∧
    (ackEntries x s).claims = s.claims ∧ (ackEntries x s).screen = s.screen ∧ (ackEntries x s).duty = s.duty ∧
    (ackEntries x s).pump = s.pump ∧ (ackEntries x s).conds = s.conds ∧ (ackEntries x s).loader = s.loader := by
  unfold ackEntries
  try dsimp only
  repeat' split
  all_goals simp

@[simp] theorem acknowledge_frame (x : Ctx) (s : State) :
    (acknowledge x s).pending = s.pending ∧ (acknowledge x s).choices = s.choices ∧ (acknowledge x s).inReset = s.inReset ∧
    (acknowledge x s).clock = s.clock ∧ (acknowledge x s).lines = s.lines ∧ (acknowledge x s).front = s.front ∧
    (acknowledge x s).peers = s.peers ∧ (acknowledge x s).ageingTimer = s.ageingTimer ∧ (acknowledge x s).order = s.order ∧
    (acknowledge x s).ladder = s.ladder ∧ (acknowledge x s).tide = s.tide ∧ (acknowledge x s).claims = s.claims ∧
    (acknowledge x s).duty = s.duty ∧ (acknowledge x s).loader.phase = s.loader.phase ∧
    (acknowledge x s).loader.bay = s.loader.bay ∧ (acknowledge x s).loader.cfg = s.loader.cfg ∧
    (acknowledge x s).loader.mark = s.loader.mark ∧ (acknowledge x s).loader.window = s.loader.window := by
  simp [acknowledge]

@[simp] theorem isolateWash_frame (x : Ctx) (s : State) :
    (isolateWash x s).pending = s.pending ∧ (isolateWash x s).inReset = s.inReset ∧ (isolateWash x s).clock = s.clock ∧
    (isolateWash x s).lines = s.lines ∧ (isolateWash x s).front = s.front ∧ (isolateWash x s).peers = s.peers ∧
    (isolateWash x s).ageingTimer = s.ageingTimer ∧ (isolateWash x s).order = s.order ∧
    (isolateWash x s).ladder = s.ladder ∧ (isolateWash x s).tide = s.tide ∧ (isolateWash x s).fouling = s.fouling ∧
    (isolateWash x s).duty = s.duty ∧ (isolateWash x s).pump = s.pump ∧ (isolateWash x s).conds = s.conds ∧
    (isolateWash x s).alarms = s.alarms ∧ (isolateWash x s).loader = s.loader := by
  unfold isolateWash
  try unfold eitherOrder
  try dsimp only
  repeat' split
  all_goals simp

@[simp] theorem setStage_frame (x : Ctx) (st : Stage) (s : State) :
    (setStage x st s).pending = s.pending ∧ (setStage x st s).inReset = s.inReset ∧ (setStage x st s).clock = s.clock ∧
    (setStage x st s).lines = s.lines ∧ (setStage x st s).front = s.front ∧ (setStage x st s).peers = s.peers ∧
    (setStage x st s).ageingTimer = s.ageingTimer ∧ (setStage x st s).order = s.order ∧ (setStage x st s).tide = s.tide ∧
    (setStage x st s).duty = s.duty ∧ (setStage x st s).loader.phase = s.loader.phase ∧
    (setStage x st s).loader.bay = s.loader.bay ∧ (setStage x st s).loader.cfg = s.loader.cfg ∧
    (setStage x st s).loader.mark = s.loader.mark ∧ (setStage x st s).loader.window = s.loader.window := by
  unfold setStage
  try dsimp only
  repeat' split
  all_goals simp

/-- The stage a change leads to is the one formed; the count is not its own. -/
@[simp] theorem setStage_ladder (x : Ctx) (st : Stage) (s : State) :
    (setStage x st s).ladder = { s.ladder with stage := st } := by
  unfold setStage
  split
  · subst_vars; rfl
  · dsimp only
    split <;> simp

@[simp] theorem returnToLinked_frame (x : Ctx) (s : State) :
    (returnToLinked x s).pending = s.pending ∧ (returnToLinked x s).inReset = s.inReset ∧
    (returnToLinked x s).clock = s.clock ∧ (returnToLinked x s).lines = s.lines ∧ (returnToLinked x s).front = s.front ∧
    (returnToLinked x s).peers = s.peers ∧ (returnToLinked x s).ageingTimer = s.ageingTimer ∧
    (returnToLinked x s).order = s.order ∧ (returnToLinked x s).tide = s.tide ∧ (returnToLinked x s).duty = s.duty ∧
    (returnToLinked x s).loader.phase = s.loader.phase ∧ (returnToLinked x s).loader.bay = s.loader.bay ∧
    (returnToLinked x s).loader.cfg = s.loader.cfg ∧ (returnToLinked x s).loader.mark = s.loader.mark ∧
    (returnToLinked x s).loader.window = s.loader.window := by
  simp [returnToLinked]

@[simp] theorem returnToLinked_ladder (x : Ctx) (s : State) : (returnToLinked x s).ladder = ⟨0, .linked⟩ := by
  simp [returnToLinked]

@[simp] theorem ageLadder_frame (x : Ctx) (s : State) :
    (ageLadder x s).pending = s.pending ∧ (ageLadder x s).inReset = s.inReset ∧ (ageLadder x s).clock = s.clock ∧
    (ageLadder x s).lines = s.lines ∧ (ageLadder x s).front = s.front ∧ (ageLadder x s).peers = s.peers ∧
    (ageLadder x s).ageingTimer = s.ageingTimer ∧ (ageLadder x s).order = s.order ∧ (ageLadder x s).tide = s.tide ∧
    (ageLadder x s).duty = s.duty ∧ (ageLadder x s).loader.phase = s.loader.phase ∧
    (ageLadder x s).loader.bay = s.loader.bay ∧ (ageLadder x s).loader.cfg = s.loader.cfg ∧
    (ageLadder x s).loader.mark = s.loader.mark ∧ (ageLadder x s).loader.window = s.loader.window := by
  simp [ageLadder]

@[simp] theorem ageLadder_ladder (x : Ctx) (s : State) :
    (ageLadder x s).ladder = ⟨min (s.ladder.count + 1) 255, stageOfCount x.cfg (min (s.ladder.count + 1) 255)⟩ := by
  simp [ageLadder]

@[simp] theorem fallSilent_frame (x : Ctx) (b : Bay) (s : State) :
    (fallSilent x b s).pending = s.pending ∧ (fallSilent x b s).choices = s.choices ∧
    (fallSilent x b s).inReset = s.inReset ∧ (fallSilent x b s).clock = s.clock ∧ (fallSilent x b s).lines = s.lines ∧
    (fallSilent x b s).front = s.front ∧ (fallSilent x b s).ageingTimer = s.ageingTimer ∧
    (fallSilent x b s).order = s.order ∧ (fallSilent x b s).ladder = s.ladder ∧ (fallSilent x b s).tide = s.tide ∧
    (fallSilent x b s).duty = s.duty ∧ (fallSilent x b s).pump = s.pump ∧ (fallSilent x b s).conds = s.conds ∧
    (fallSilent x b s).alarms = s.alarms ∧ (fallSilent x b s).loader = s.loader := by
  simp [fallSilent]

@[simp] theorem ageEntry_frame (x : Ctx) (s : State) (b : Bay) :
    (ageEntry x s b).pending = s.pending ∧ (ageEntry x s b).choices = s.choices ∧ (ageEntry x s b).inReset = s.inReset ∧
    (ageEntry x s b).clock = s.clock ∧ (ageEntry x s b).lines = s.lines ∧ (ageEntry x s b).front = s.front ∧
    (ageEntry x s b).ageingTimer = s.ageingTimer ∧ (ageEntry x s b).order = s.order ∧ (ageEntry x s b).ladder = s.ladder ∧
    (ageEntry x s b).tide = s.tide ∧ (ageEntry x s b).duty = s.duty ∧ (ageEntry x s b).pump = s.pump ∧
    (ageEntry x s b).conds = s.conds ∧ (ageEntry x s b).alarms = s.alarms ∧ (ageEntry x s b).loader = s.loader := by
  unfold ageEntry
  try dsimp only
  repeat' split
  all_goals simp

@[simp] theorem ageEntries_frame (x : Ctx) (s : State) :
    (ageEntries x s).pending = s.pending ∧ (ageEntries x s).choices = s.choices ∧ (ageEntries x s).inReset = s.inReset ∧
    (ageEntries x s).clock = s.clock ∧ (ageEntries x s).lines = s.lines ∧ (ageEntries x s).front = s.front ∧
    (ageEntries x s).ageingTimer = s.ageingTimer ∧ (ageEntries x s).order = s.order ∧ (ageEntries x s).ladder = s.ladder ∧
    (ageEntries x s).tide = s.tide ∧ (ageEntries x s).duty = s.duty ∧ (ageEntries x s).pump = s.pump ∧
    (ageEntries x s).conds = s.conds ∧ (ageEntries x s).alarms = s.alarms ∧ (ageEntries x s).loader = s.loader := by
  unfold ageEntries
  exact ⟨foldl_keeps State.pending _ (fun t b => by simp) _ s,
    foldl_keeps State.choices _ (fun t b => by simp) _ s,
    foldl_keeps State.inReset _ (fun t b => by simp) _ s,
    foldl_keeps State.clock _ (fun t b => by simp) _ s,
    foldl_keeps State.lines _ (fun t b => by simp) _ s,
    foldl_keeps State.front _ (fun t b => by simp) _ s,
    foldl_keeps State.ageingTimer _ (fun t b => by simp) _ s,
    foldl_keeps State.order _ (fun t b => by simp) _ s,
    foldl_keeps State.ladder _ (fun t b => by simp) _ s,
    foldl_keeps State.tide _ (fun t b => by simp) _ s,
    foldl_keeps State.duty _ (fun t b => by simp) _ s,
    foldl_keeps State.pump _ (fun t b => by simp) _ s,
    foldl_keeps State.conds _ (fun t b => by simp) _ s,
    foldl_keeps State.alarms _ (fun t b => by simp) _ s,
    foldl_keeps State.loader _ (fun t b => by simp) _ s⟩

@[simp] theorem ageOrder_frame (x : Ctx) (s : State) :
    (ageOrder x s).pending = s.pending ∧ (ageOrder x s).choices = s.choices ∧ (ageOrder x s).inReset = s.inReset ∧
    (ageOrder x s).clock = s.clock ∧ (ageOrder x s).lines = s.lines ∧ (ageOrder x s).front = s.front ∧
    (ageOrder x s).peers = s.peers ∧ (ageOrder x s).ageingTimer = s.ageingTimer ∧ (ageOrder x s).ladder = s.ladder ∧
    (ageOrder x s).tide = s.tide ∧ (ageOrder x s).fouling = s.fouling ∧ (ageOrder x s).claims = s.claims ∧
    (ageOrder x s).screen = s.screen ∧ (ageOrder x s).duty = s.duty ∧ (ageOrder x s).pump = s.pump ∧
    (ageOrder x s).conds = s.conds ∧ (ageOrder x s).alarms = s.alarms ∧ (ageOrder x s).link = s.link ∧
    (ageOrder x s).loader = s.loader := by
  simp [ageOrder]

@[simp] theorem restartRemovals_frame (x : Ctx) (b : Bay) (r : Report) (s : State) :
    (restartRemovals x b r s).pending = s.pending ∧ (restartRemovals x b r s).choices = s.choices ∧
    (restartRemovals x b r s).inReset = s.inReset ∧ (restartRemovals x b r s).clock = s.clock ∧
    (restartRemovals x b r s).lines = s.lines ∧ (restartRemovals x b r s).front = s.front ∧
    (restartRemovals x b r s).peers = s.peers ∧ (restartRemovals x b r s).ageingTimer = s.ageingTimer ∧
    (restartRemovals x b r s).order = s.order ∧ (restartRemovals x b r s).ladder = s.ladder ∧
    (restartRemovals x b r s).tide = s.tide ∧ (restartRemovals x b r s).duty = s.duty ∧
    (restartRemovals x b r s).pump = s.pump ∧ (restartRemovals x b r s).conds = s.conds ∧
    (restartRemovals x b r s).alarms = s.alarms ∧ (restartRemovals x b r s).loader = s.loader := by
  unfold restartRemovals
  try dsimp only
  repeat' split
  all_goals simp

@[simp] theorem storeReport_frame (b : Bay) (r : Report) (s : State) :
    (storeReport b r s).pending = s.pending ∧ (storeReport b r s).choices = s.choices ∧
    (storeReport b r s).inReset = s.inReset ∧ (storeReport b r s).clock = s.clock ∧ (storeReport b r s).lines = s.lines ∧
    (storeReport b r s).front = s.front ∧ (storeReport b r s).ageingTimer = s.ageingTimer ∧
    (storeReport b r s).order = s.order ∧ (storeReport b r s).ladder = s.ladder ∧ (storeReport b r s).tide = s.tide ∧
    (storeReport b r s).fouling = s.fouling ∧ (storeReport b r s).claims = s.claims ∧
    (storeReport b r s).screen = s.screen ∧ (storeReport b r s).duty = s.duty ∧ (storeReport b r s).pump = s.pump ∧
    (storeReport b r s).conds = s.conds ∧ (storeReport b r s).alarms = s.alarms ∧ (storeReport b r s).link = s.link ∧
    (storeReport b r s).loader = s.loader := by
  simp [storeReport]

@[simp] theorem refreshEntry_frame (b : Bay) (s : State) :
    (refreshEntry b s).pending = s.pending ∧ (refreshEntry b s).choices = s.choices ∧
    (refreshEntry b s).inReset = s.inReset ∧ (refreshEntry b s).clock = s.clock ∧ (refreshEntry b s).lines = s.lines ∧
    (refreshEntry b s).front = s.front ∧ (refreshEntry b s).ageingTimer = s.ageingTimer ∧
    (refreshEntry b s).order = s.order ∧ (refreshEntry b s).ladder = s.ladder ∧ (refreshEntry b s).tide = s.tide ∧
    (refreshEntry b s).fouling = s.fouling ∧ (refreshEntry b s).claims = s.claims ∧ (refreshEntry b s).screen = s.screen ∧
    (refreshEntry b s).duty = s.duty ∧ (refreshEntry b s).pump = s.pump ∧ (refreshEntry b s).conds = s.conds ∧
    (refreshEntry b s).alarms = s.alarms ∧ (refreshEntry b s).link = s.link ∧ (refreshEntry b s).loader = s.loader := by
  unfold refreshEntry
  try dsimp only
  repeat' split
  all_goals simp

@[simp] theorem takeStatus_frame (x : Ctx) (b : Bay) (p : List Byte) (s : State) :
    (takeStatus x b p s).pending = s.pending ∧ (takeStatus x b p s).inReset = s.inReset ∧
    (takeStatus x b p s).clock = s.clock ∧ (takeStatus x b p s).lines = s.lines ∧ (takeStatus x b p s).front = s.front ∧
    (takeStatus x b p s).ageingTimer = s.ageingTimer ∧ (takeStatus x b p s).order = s.order ∧
    (takeStatus x b p s).ladder = s.ladder ∧ (takeStatus x b p s).tide = s.tide ∧ (takeStatus x b p s).duty = s.duty ∧
    (takeStatus x b p s).loader.phase = s.loader.phase ∧ (takeStatus x b p s).loader.bay = s.loader.bay ∧
    (takeStatus x b p s).loader.cfg = s.loader.cfg ∧ (takeStatus x b p s).loader.mark = s.loader.mark ∧
    (takeStatus x b p s).loader.window = s.loader.window := by
  unfold takeStatus
  try unfold eitherOrder
  try dsimp only
  repeat' split
  all_goals simp

@[simp] theorem takeClaim_frame (x : Ctx) (b : Bay) (p : List Byte) (s : State) :
    (takeClaim x b p s).pending = s.pending ∧ (takeClaim x b p s).choices = s.choices ∧
    (takeClaim x b p s).inReset = s.inReset ∧ (takeClaim x b p s).clock = s.clock ∧ (takeClaim x b p s).lines = s.lines ∧
    (takeClaim x b p s).front = s.front ∧ (takeClaim x b p s).ageingTimer = s.ageingTimer ∧
    (takeClaim x b p s).order = s.order ∧ (takeClaim x b p s).ladder = s.ladder ∧ (takeClaim x b p s).tide = s.tide ∧
    (takeClaim x b p s).fouling = s.fouling ∧ (takeClaim x b p s).duty = s.duty ∧ (takeClaim x b p s).pump = s.pump ∧
    (takeClaim x b p s).conds = s.conds ∧ (takeClaim x b p s).alarms = s.alarms ∧ (takeClaim x b p s).loader = s.loader := by
  unfold takeClaim
  try dsimp only
  repeat' split
  all_goals simp

@[simp] theorem takeRelease_frame (x : Ctx) (b : Bay) (p : List Byte) (s : State) :
    (takeRelease x b p s).pending = s.pending ∧ (takeRelease x b p s).choices = s.choices ∧
    (takeRelease x b p s).inReset = s.inReset ∧ (takeRelease x b p s).clock = s.clock ∧
    (takeRelease x b p s).lines = s.lines ∧ (takeRelease x b p s).front = s.front ∧
    (takeRelease x b p s).ageingTimer = s.ageingTimer ∧ (takeRelease x b p s).order = s.order ∧
    (takeRelease x b p s).ladder = s.ladder ∧ (takeRelease x b p s).tide = s.tide ∧
    (takeRelease x b p s).fouling = s.fouling ∧ (takeRelease x b p s).duty = s.duty ∧ (takeRelease x b p s).pump = s.pump ∧
    (takeRelease x b p s).conds = s.conds ∧ (takeRelease x b p s).alarms = s.alarms ∧
    (takeRelease x b p s).loader = s.loader := by
  simp [takeRelease]

@[simp] theorem orderTaken_frame (o : OrderFields) (s : State) :
    (orderTaken o s).pending = s.pending ∧ (orderTaken o s).choices = s.choices ∧ (orderTaken o s).inReset = s.inReset ∧
    (orderTaken o s).clock = s.clock ∧ (orderTaken o s).lines = s.lines ∧ (orderTaken o s).front = s.front ∧
    (orderTaken o s).peers = s.peers ∧ (orderTaken o s).ageingTimer = s.ageingTimer ∧ (orderTaken o s).ladder = s.ladder ∧
    (orderTaken o s).tide = s.tide ∧ (orderTaken o s).fouling = s.fouling ∧ (orderTaken o s).claims = s.claims ∧
    (orderTaken o s).screen = s.screen ∧ (orderTaken o s).duty = s.duty ∧ (orderTaken o s).pump = s.pump ∧
    (orderTaken o s).conds = s.conds ∧ (orderTaken o s).alarms = s.alarms ∧ (orderTaken o s).link = s.link ∧
    (orderTaken o s).loader = s.loader := by
  simp [orderTaken]

@[simp] theorem applyMasks_frame (x : Ctx) (o : OrderFields) (s : State) :
    (applyMasks x o s).pending = s.pending ∧ (applyMasks x o s).inReset = s.inReset ∧ (applyMasks x o s).clock = s.clock ∧
    (applyMasks x o s).lines = s.lines ∧ (applyMasks x o s).front = s.front ∧ (applyMasks x o s).peers = s.peers ∧
    (applyMasks x o s).ageingTimer = s.ageingTimer ∧ (applyMasks x o s).order = s.order ∧
    (applyMasks x o s).ladder = s.ladder ∧ (applyMasks x o s).tide = s.tide ∧ (applyMasks x o s).claims = s.claims ∧
    (applyMasks x o s).duty = s.duty ∧ (applyMasks x o s).loader.phase = s.loader.phase ∧
    (applyMasks x o s).loader.bay = s.loader.bay ∧ (applyMasks x o s).loader.cfg = s.loader.cfg ∧
    (applyMasks x o s).loader.mark = s.loader.mark ∧ (applyMasks x o s).loader.window = s.loader.window := by
  unfold applyMasks
  try unfold eitherOrder
  try dsimp only
  repeat' split
  all_goals simp

@[simp] theorem takeOrder_frame (x : Ctx) (p : List Byte) (s : State) :
    (takeOrder x p s).pending = s.pending ∧ (takeOrder x p s).inReset = s.inReset ∧ (takeOrder x p s).clock = s.clock ∧
    (takeOrder x p s).lines = s.lines ∧ (takeOrder x p s).front = s.front ∧ (takeOrder x p s).peers = s.peers ∧
    (takeOrder x p s).ageingTimer = s.ageingTimer ∧ (takeOrder x p s).ladder = s.ladder ∧ (takeOrder x p s).tide = s.tide ∧
    (takeOrder x p s).claims = s.claims ∧ (takeOrder x p s).duty = s.duty ∧
    (takeOrder x p s).loader.phase = s.loader.phase ∧ (takeOrder x p s).loader.bay = s.loader.bay ∧
    (takeOrder x p s).loader.cfg = s.loader.cfg ∧ (takeOrder x p s).loader.mark = s.loader.mark ∧
    (takeOrder x p s).loader.window = s.loader.window := by
  unfold takeOrder
  try dsimp only
  repeat' split
  all_goals simp

@[simp] theorem tellCompletion_frame (x : Ctx) (f : TxFrame) (s : State) :
    (tellCompletion x f s).pending = s.pending ∧ (tellCompletion x f s).choices = s.choices ∧
    (tellCompletion x f s).inReset = s.inReset ∧ (tellCompletion x f s).clock = s.clock ∧
    (tellCompletion x f s).lines = s.lines ∧ (tellCompletion x f s).front = s.front ∧
    (tellCompletion x f s).peers = s.peers ∧ (tellCompletion x f s).ageingTimer = s.ageingTimer ∧
    (tellCompletion x f s).order = s.order ∧ (tellCompletion x f s).ladder = s.ladder ∧
    (tellCompletion x f s).tide = s.tide ∧ (tellCompletion x f s).fouling = s.fouling ∧
    (tellCompletion x f s).duty = s.duty ∧ (tellCompletion x f s).pump = s.pump ∧ (tellCompletion x f s).conds = s.conds ∧
    (tellCompletion x f s).alarms = s.alarms ∧ (tellCompletion x f s).loader = s.loader := by
  unfold tellCompletion
  try dsimp only
  repeat' split
  all_goals simp

@[simp] theorem tellDrop_frame (x : Ctx) (f : TxFrame) (s : State) :
    (tellDrop x f s).pending = s.pending ∧ (tellDrop x f s).choices = s.choices ∧ (tellDrop x f s).inReset = s.inReset ∧
    (tellDrop x f s).clock = s.clock ∧ (tellDrop x f s).lines = s.lines ∧ (tellDrop x f s).front = s.front ∧
    (tellDrop x f s).peers = s.peers ∧ (tellDrop x f s).ageingTimer = s.ageingTimer ∧ (tellDrop x f s).order = s.order ∧
    (tellDrop x f s).ladder = s.ladder ∧ (tellDrop x f s).tide = s.tide ∧ (tellDrop x f s).fouling = s.fouling ∧
    (tellDrop x f s).duty = s.duty ∧ (tellDrop x f s).pump = s.pump ∧ (tellDrop x f s).conds = s.conds ∧
    (tellDrop x f s).alarms = s.alarms ∧ (tellDrop x f s).loader = s.loader := by
  unfold tellDrop
  try dsimp only
  repeat' split
  all_goals simp

@[simp] theorem failAttempt_frame (x : Ctx) (s : State) :
    (failAttempt x s).pending = s.pending ∧ (failAttempt x s).choices = s.choices ∧ (failAttempt x s).inReset = s.inReset ∧
    (failAttempt x s).clock = s.clock ∧ (failAttempt x s).lines = s.lines ∧ (failAttempt x s).front = s.front ∧
    (failAttempt x s).peers = s.peers ∧ (failAttempt x s).ageingTimer = s.ageingTimer ∧ (failAttempt x s).order = s.order ∧
    (failAttempt x s).ladder = s.ladder ∧ (failAttempt x s).tide = s.tide ∧ (failAttempt x s).fouling = s.fouling ∧
    (failAttempt x s).duty = s.duty ∧ (failAttempt x s).pump = s.pump ∧ (failAttempt x s).conds = s.conds ∧
    (failAttempt x s).alarms = s.alarms ∧ (failAttempt x s).loader = s.loader := by
  unfold failAttempt finishFrame
  dsimp only
  repeat' split
  all_goals simp

@[simp] theorem endListening_frame (x : Ctx) (s : State) :
    (endListening x s).ladder = s.ladder ∧ (endListening x s).peers = s.peers ∧ (endListening x s).order = s.order ∧
    (endListening x s).fouling = s.fouling ∧ (endListening x s).claims = s.claims := by
  unfold endListening
  split <;> simp [enterOperating, adoptHours]

@[simp] theorem countWindow_frame (x : Ctx) (s : State) :
    (countWindow x s).ladder = s.ladder ∧ (countWindow x s).peers = s.peers ∧ (countWindow x s).order = s.order ∧
    (countWindow x s).fouling = s.fouling ∧ (countWindow x s).claims = s.claims := by
  unfold countWindow
  dsimp only
  repeat' split
  all_goals simp

/-- The ladder after an ageing expiry: the count one more, saturating, and the stage it gives. -/
@[simp] theorem ageingStep_ladder (x : Ctx) (s : State) :
    (ageingStep x s).ladder = ⟨min (s.ladder.count + 1) 255, stageOfCount x.cfg (min (s.ladder.count + 1) 255)⟩ := by
  simp [ageingStep]

@[simp] theorem bayConflictFound_frame (x : Ctx) (s : State) :
    (bayConflictFound x s).pending = s.pending ∧ (bayConflictFound x s).choices = s.choices ∧
    (bayConflictFound x s).inReset = s.inReset ∧ (bayConflictFound x s).clock = s.clock ∧
    (bayConflictFound x s).lines = s.lines ∧ (bayConflictFound x s).front = s.front ∧
    (bayConflictFound x s).peers = s.peers ∧ (bayConflictFound x s).ageingTimer = s.ageingTimer ∧
    (bayConflictFound x s).order = s.order ∧ (bayConflictFound x s).ladder = s.ladder ∧
    (bayConflictFound x s).tide = s.tide ∧ (bayConflictFound x s).duty = s.duty ∧
    (bayConflictFound x s).loader.phase = s.loader.phase ∧ (bayConflictFound x s).loader.bay = s.loader.bay ∧
    (bayConflictFound x s).loader.cfg = s.loader.cfg ∧ (bayConflictFound x s).loader.mark = s.loader.mark ∧
    (bayConflictFound x s).loader.window = s.loader.window := by
  unfold bayConflictFound
  try dsimp only
  repeat' split
  all_goals simp

end Sys2Proof.Machine
end

