-- ==== Sys2Proof/Laws/Ops.lean ====
section
/-! SUPPORT. Sys2Proof/Laws/Ops.lean: what the shared operations answer: the offer of a frame, the conditions, the drive, the wash state,
the pump state and counted running. Each says once what a later proof needs, so that none unfolds the operation. -/

namespace Sys2Proof.Machine

/-! ### States -/

/-- Two states are equal when every part is. -/
theorem State.eq_of_parts {s t : State} (h1 : s.pending = t.pending) (h2 : s.choices = t.choices) (h3 : s.inReset = t.inReset)
    (h4 : s.clock = t.clock) (h5 : s.lines = t.lines) (h6 : s.front = t.front) (h7 : s.peers = t.peers)
    (h8 : s.ageingTimer = t.ageingTimer) (h9 : s.order = t.order) (h10 : s.ladder = t.ladder) (h11 : s.tide = t.tide)
    (h12 : s.fouling = t.fouling) (h13 : s.claims = t.claims) (h14 : s.screen = t.screen) (h15 : s.duty = t.duty)
    (h16 : s.pump = t.pump) (h17 : s.conds = t.conds) (h18 : s.alarms = t.alarms) (h19 : s.link = t.link)
    (h20 : s.loader = t.loader) : s = t := by
  cases s; cases t; simp_all

/-! ### The transmit queue -/

theorem offer_mute {x : Ctx} {f : TxFrame} {s : State} (h : s.link.tx = .mute) : offer x f s = s := by
  simp [offer, h]

theorem offerStatus_mute {x : Ctx} {s : State} (h : s.link.tx = .mute) : offerStatus x s = s := offer_mute h

/-- An IDLE transmitter with an empty queue takes the frame into hand. -/
theorem offer_idle {x : Ctx} {f : TxFrame} {s : State} (h : s.link.tx = .idle) (hq : s.link.queue = []) :
    offer x f s = { s with link := { s.link with
      tx := .defer, inHand := some ⟨f, 1, []⟩, queue := [], accessTimer := accessAhead x s } } := by
  simp [offer, h, hq, takeNext, accessAhead, ahead]

/-- A busy transmitter leaves the frame waiting at the end of the queue, a STATUS where none waits. -/
theorem offer_busy {x : Ctx} {f : TxFrame} {s : State} (hm : s.link.tx ≠ .mute) (hi : s.link.tx ≠ .idle)
    (hf : f = .status → TxFrame.status ∉ s.link.queue) :
    offer x f s = { s with link := { s.link with queue := s.link.queue ++ [f] } } := by
  unfold offer
  rw [if_neg hm, if_neg (by simpa using hf)]
  unfold takeNext
  cases h : s.link.tx <;> simp_all

/-- A STATUS offered while one waits leaves the queue as it is. -/
theorem offer_status_waiting {x : Ctx} {s : State} (h : TxFrame.status ∈ s.link.queue) : offer x .status s = s := by
  simp [offer, h]

theorem handedOver_takeNext {x : Ctx} {f : TxFrame} {s : State} (hi : s.link.tx = .idle → s.link.inHand = none)
    (h : handedOver f s) : handedOver f (takeNext x s) := by
  unfold takeNext
  split
  next q rest ht hq =>
    rcases h with h | ⟨g, hg, -⟩
    · rw [hq] at h
      rcases List.mem_cons.1 h with rfl | h
      · exact .inr ⟨_, rfl, rfl⟩
      · exact .inl h
    · simp [hi ht] at hg
  next => exact h

theorem mem_takeNext {x : Ctx} {f : TxFrame} {s : State} (h : f ∈ s.link.queue) : handedOver f (takeNext x s) := by
  unfold takeNext
  split
  next q rest ht hq =>
    rw [hq] at h
    rcases List.mem_cons.1 h with rfl | h
    · exact .inr ⟨_, rfl, rfl⟩
    · exact .inl h
  next => exact .inl h

/-- A frame offered outside MUTE is handed over. -/
theorem handedOver_offer {x : Ctx} {f : TxFrame} {s : State} (h : s.link.tx ≠ .mute) : handedOver f (offer x f s) := by
  unfold offer
  rw [if_neg h]
  split
  next hc =>
    obtain ⟨rfl, hq⟩ : f = .status ∧ TxFrame.status ∈ s.link.queue := by simpa using hc
    exact .inl hq
  next => exact mem_takeNext (by simp)

/-- An offer is made in MUTE, where it changes nothing, or leaves MUTE out. -/
theorem offer_tx_ne_mute {x : Ctx} {f : TxFrame} {s : State} (h : s.link.tx ≠ .mute) : (offer x f s).link.tx ≠ .mute := by
  unfold offer
  rw [if_neg h]
  split
  · exact h
  · unfold takeNext
    split
    · simp
    · exact h

/-- A frame waiting stays handed over when another is offered. -/
theorem handedOver_offer_of_mem {x : Ctx} {f g : TxFrame} {s : State} (h : f ∈ s.link.queue) : handedOver f (offer x g s) := by
  unfold offer
  split
  · exact .inl h
  · split
    · exact .inl h
    · exact mem_takeNext (by simp [h])

/-! ### Conditions and alarms -/

@[simp] theorem setCond_conds (x : Ctx) (a : Alarm) (v : Bool) (s : State) : (setCond x a v s).conds = s.conds.set a v := by
  unfold setCond
  split
  next h => rw [← h, Conds.set_get_self]
  next => simp

theorem setCond_same {x : Ctx} {a : Alarm} {v : Bool} {s : State} (h : s.conds.get a = v) : setCond x a v s = s := by
  simp [setCond, h]

theorem annunciate_alarms (x : Ctx) (a : Alarm) (rise : Bool) (s : State) : (annunciate x a rise s).alarms =
    if alarmEnabled x.cfg a.index.val then s.alarms.set a.index (entryAfterChange rise (alarmState s a)) else s.alarms := by
  unfold annunciate
  dsimp only
  cases he : alarmEnabled x.cfg a.index.val
  · simp
  · by_cases h : entryAfterChange rise (alarmState s a) = alarmState s a
    · rw [h]
      simp [alarmState]
    · simp [h]

theorem annunciate_mute {x : Ctx} {a : Alarm} {rise : Bool} {s : State} (h : s.link.tx = .mute) :
    (annunciate x a rise s).link = s.link := by
  unfold annunciate
  dsimp only
  split
  · rw [offerStatus_mute (by exact h)]
  · rfl

/-! ### The drive and the wash state -/

@[simp] theorem setDrive_drive (x : Ctx) (d : Drive) (s : State) : (setDrive x d s).screen.drive = d := by
  unfold setDrive
  split_ifs with h h1 <;> simp_all

/-- Setting the drive moves the drive, the shaft capture and the stall window only. -/
@[simp] theorem setDrive_screen_kept (x : Ctx) (d : Drive) (s : State) :
    (setDrive x d s).screen.wash = s.screen.wash ∧ (setDrive x d s).screen.tag = s.screen.tag ∧
    (setDrive x d s).screen.cls = s.screen.cls ∧ (setDrive x d s).screen.completed = s.screen.completed ∧
    (setDrive x d s).screen.working = s.screen.working ∧ (setDrive x d s).screen.cycleCount = s.screen.cycleCount ∧
    (setDrive x d s).screen.cycleTimer = s.screen.cycleTimer ∧ (setDrive x d s).screen.headerTimer = s.screen.headerTimer ∧
    (setDrive x d s).screen.retryTimer = s.screen.retryTimer ∧ (setDrive x d s).screen.gapTimer = s.screen.gapTimer ∧
    (setDrive x d s).screen.intervalTimer = s.screen.intervalTimer ∧
    (setDrive x d s).screen.intervalDue = s.screen.intervalDue ∧ (setDrive x d s).screen.spray = s.screen.spray := by
  unfold setDrive
  split_ifs <;> simp

/-- A state at a drive of the choice. -/
theorem driveChoice_congr {s t : State} (h1 : t.loader.phase = s.loader.phase) (h2 : t.conds.bayConflict = s.conds.bayConflict)
    (h3 : t.conds.screenStall = s.conds.screenStall) (h4 : t.screen.wash = s.screen.wash) (h5 : t.fouling.swarm = s.fouling.swarm)
    (h6 : t.conds.highHigh = s.conds.highHigh) (h7 : t.conds.surge = s.conds.surge) : driveChoice t = driveChoice s := by
  simp only [driveChoice, h1, h2, h3, h4, h5, h6, h7]

@[simp] theorem selectDrive_drive (x : Ctx) (s : State) : (selectDrive x s).screen.drive = driveChoice (selectDrive x s) := by
  have h : driveChoice (selectDrive x s) = driveChoice s := by
    apply driveChoice_congr <;> simp [selectDrive]
  rw [h]
  simp [selectDrive]

@[simp] theorem selectDrive_screen_kept (x : Ctx) (s : State) :
    (selectDrive x s).screen.wash = s.screen.wash ∧ (selectDrive x s).screen.tag = s.screen.tag ∧
    (selectDrive x s).screen.cls = s.screen.cls ∧ (selectDrive x s).screen.completed = s.screen.completed ∧
    (selectDrive x s).screen.working = s.screen.working ∧ (selectDrive x s).screen.cycleCount = s.screen.cycleCount ∧
    (selectDrive x s).screen.cycleTimer = s.screen.cycleTimer ∧ (selectDrive x s).screen.headerTimer = s.screen.headerTimer ∧
    (selectDrive x s).screen.retryTimer = s.screen.retryTimer ∧ (selectDrive x s).screen.gapTimer = s.screen.gapTimer ∧
    (selectDrive x s).screen.intervalTimer = s.screen.intervalTimer ∧
    (selectDrive x s).screen.intervalDue = s.screen.intervalDue ∧ (selectDrive x s).screen.spray = s.screen.spray := by
  simp [selectDrive]

@[simp] theorem setWash_screen_kept (x : Ctx) (w : WashState) (s : State) :
    (setWash x w s).screen.wash = w ∧ (setWash x w s).screen.tag = s.screen.tag ∧
    (setWash x w s).screen.cls = s.screen.cls ∧ (setWash x w s).screen.completed = s.screen.completed ∧
    (setWash x w s).screen.working = s.screen.working ∧ (setWash x w s).screen.cycleCount = s.screen.cycleCount ∧
    (setWash x w s).screen.cycleTimer = s.screen.cycleTimer ∧ (setWash x w s).screen.headerTimer = s.screen.headerTimer ∧
    (setWash x w s).screen.retryTimer = s.screen.retryTimer ∧ (setWash x w s).screen.gapTimer = s.screen.gapTimer ∧
    (setWash x w s).screen.intervalTimer = s.screen.intervalTimer ∧
    (setWash x w s).screen.intervalDue = s.screen.intervalDue ∧ (setWash x w s).screen.spray = s.screen.spray := by
  unfold setWash
  split
  next h => simp [h]
  next => simp

/-- A changed wash state has its drive chosen afresh. -/
theorem setWash_drive {x : Ctx} {w : WashState} {s : State} (h : s.screen.wash ≠ w) :
    (setWash x w s).screen.drive = driveChoice (setWash x w s) := by
  unfold setWash
  rw [if_neg h]
  have : driveChoice (offerStatus x (selectDrive x { s with screen := { s.screen with wash := w } })) =
      driveChoice (selectDrive x { s with screen := { s.screen with wash := w } }) := by
    apply driveChoice_congr <;> simp
  rw [this]
  simp

/-! ### Counted running and the pump state -/

theorem addMinute_pump_kept (s : State) :
    (addMinute s).pump = { s.pump with runMinutes := (addMinute s).pump.runMinutes } := by
  unfold addMinute
  dsimp only
  split
  · split <;> simp
  · rfl

theorem stopMinutes_pump_kept (s : State) : (stopMinutes s).pump = { s.pump with
    runMinutes := (stopMinutes s).pump.runMinutes, minuteAcc := (stopMinutes s).pump.minuteAcc,
    minuteTimer := (stopMinutes s).pump.minuteTimer } := by
  unfold stopMinutes
  dsimp only
  split
  · split
    · rw [addMinute_pump_kept]
    · rfl
  · rfl

/-- A change of counted running moves no more of the pump than its run time. -/
theorem countedChanged_pump_kept (x : Ctx) (s : State) : (countedChanged x s).pump = { s.pump with
    runMinutes := (countedChanged x s).pump.runMinutes, minuteAcc := (countedChanged x s).pump.minuteAcc,
    minuteTimer := (countedChanged x s).pump.minuteTimer } := by
  unfold countedChanged
  dsimp only
  split
  · simp
  · rw [(requestWrite_frame _).2.2.2.2.2.2.2.2.2.2.2.2.2.2.2.1, stopMinutes_pump_kept]

theorem noteCounted_pump_kept (x : Ctx) (was : Bool) (s : State) : (noteCounted x was s).pump = { s.pump with
    runMinutes := (noteCounted x was s).pump.runMinutes, minuteAcc := (noteCounted x was s).pump.minuteAcc,
    minuteTimer := (noteCounted x was s).pump.minuteTimer } := by
  unfold noteCounted
  split
  · rfl
  · exact countedChanged_pump_kept x s

/-- The pump's fields a change of pump state leaves. -/
theorem setPump_pump (x : Ctx) (p : PumpState) (s : State) : (setPump x p s).pump = { s.pump with
    state := p, runMinutes := (setPump x p s).pump.runMinutes, minuteAcc := (setPump x p s).pump.minuteAcc,
    minuteTimer := (setPump x p s).pump.minuteTimer } := by
  unfold setPump
  split
  next h => rw [← h]
  next =>
    dsimp only
    simp only [setCond_frame]
    rw [noteCounted_pump_kept]
    simp

@[simp] theorem noteCounted_pump_fields (x : Ctx) (was : Bool) (s : State) :
    (noteCounted x was s).pump.state = s.pump.state ∧ (noteCounted x was s).pump.cause = s.pump.cause ∧
    (noteCounted x was s).pump.pulse = s.pump.pulse ∧ (noteCounted x was s).pump.pulseTimer = s.pump.pulseTimer ∧
    (noteCounted x was s).pump.guardTimer = s.pump.guardTimer ∧
    (noteCounted x was s).pump.feedbackTimer = s.pump.feedbackTimer ∧
    (noteCounted x was s).pump.minRunTimer = s.pump.minRunTimer ∧
    (noteCounted x was s).pump.minStopTimer = s.pump.minStopTimer ∧ (noteCounted x was s).pump.ring = s.pump.ring ∧
    (noteCounted x was s).pump.pointer = s.pump.pointer ∧ (noteCounted x was s).pump.ageTimer = s.pump.ageTimer := by
  rw [noteCounted_pump_kept]
  simp

@[simp] theorem setPump_pump_fields (x : Ctx) (p : PumpState) (s : State) :
    (setPump x p s).pump.state = p ∧ (setPump x p s).pump.cause = s.pump.cause ∧
    (setPump x p s).pump.pulse = s.pump.pulse ∧ (setPump x p s).pump.pulseTimer = s.pump.pulseTimer ∧
    (setPump x p s).pump.guardTimer = s.pump.guardTimer ∧ (setPump x p s).pump.feedbackTimer = s.pump.feedbackTimer ∧
    (setPump x p s).pump.minRunTimer = s.pump.minRunTimer ∧ (setPump x p s).pump.minStopTimer = s.pump.minStopTimer ∧
    (setPump x p s).pump.ring = s.pump.ring ∧ (setPump x p s).pump.pointer = s.pump.pointer ∧
    (setPump x p s).pump.ageTimer = s.pump.ageTimer := by
  rw [setPump_pump]
  simp

/-- After a change of pump state PUMP TRIP and PUMP FAIL tell it. -/
theorem setPump_conds {x : Ctx} {p : PumpState} {s : State} (h : s.pump.state ≠ p) : (setPump x p s).conds =
    { s.conds with pumpTrip := decide (p = .tripped), pumpFail := decide (p = .failed) } := by
  unfold setPump
  rw [if_neg h]
  simp [Conds.set]

/-- The fouling monitor's part in a change of counted running. -/
theorem noteCounted_fouling (x : Ctx) (was : Bool) (s : State) : (noteCounted x was s).fouling =
    if countedRunning s = was then s.fouling
    else { s.fouling with runningMark := countedRunning s, settleTimer := ahead s (x.cfg.settleTime * 1000) } := by
  unfold noteCounted
  split
  · rfl
  · unfold countedChanged
    dsimp only
    split <;> simp

/-- The fouling monitor's part in a change of pump state. -/
theorem setPump_fouling (x : Ctx) (p : PumpState) (s : State) : (setPump x p s).fouling =
    if countsRunning p s.lines.run = countedRunning s then s.fouling
    else { s.fouling with runningMark := countsRunning p s.lines.run, settleTimer := ahead s (x.cfg.settleTime * 1000) } := by
  unfold setPump
  split
  next h => rw [if_pos]; simp [countedRunning, h]
  next =>
    dsimp only
    simp only [setCond_frame]
    rw [noteCounted_fouling]
    simp only [countedRunning, ahead, offerStatus_frame]
    congr

/-! ### The claim list -/

/-- The grant range is the first wash_headers places: an in-range time stands there alone, and never for the own entry. -/
theorem regraded_getElem? (x : Ctx) (l : List Claim) (i : Nat) :
    (regraded x l)[i]? =
      l[i]?.map fun e => if i < x.cfg.washHeaders ∧ e.bay ≠ x.bay then e else { e with inRange := 0 } := by
  cases h : l[i]? <;> simp [regraded, h, inGrantRange]

@[simp] theorem regraded_length (x : Ctx) (l : List Claim) : (regraded x l).length = l.length := by simp [regraded]

end Sys2Proof.Machine
end

