-- ==== Sys2Proof/Laws/PerInstr.lean ====
section
/-! SUPPORT. Sys2Proof/Laws/PerInstr.lean: laws of each command as syntax. The table of the spec gives no row any bits, so no word
spells a command (log 14). -/

namespace Sys2Proof.Laws.Unspelled

/-- No word of any width is read as the command. -/
def Statement (i : Instr) : Prop := ∀ nbits w, decodeTableWord nbits w ≠ some i

theorem reset : Statement .reset := fun _ _ h => by cases h
theorem resetEnd : ∀ b, Statement (.resetEnd b) := by
  intro b _ _ h; cases h
theorem configImageReadDone : ∀ l, Statement (.configImageReadDone l) := by
  intro l _ _ h; cases h
theorem dutyRecordReadDone : ∀ l, Statement (.dutyRecordReadDone l) := by
  intro l _ _ h; cases h
theorem sampleTimerExpiry : ∀ o i, Statement (.sampleTimerExpiry o i) := by
  intro o i _ _ h; cases h
theorem settleTimerExpiry : Statement .settleTimerExpiry := fun _ _ h => by cases h
theorem ageingTimerExpiry : Statement .ageingTimerExpiry := fun _ _ h => by cases h
theorem tideTimerExpiry : Statement .tideTimerExpiry := fun _ _ h => by cases h
theorem trendTimerExpiry : Statement .trendTimerExpiry := fun _ _ h => by cases h
theorem rangeTimerExpiry : Statement .rangeTimerExpiry := fun _ _ h => by cases h
theorem gapTimerExpiry : Statement .gapTimerExpiry := fun _ _ h => by cases h
theorem intervalTimerExpiry : Statement .intervalTimerExpiry := fun _ _ h => by cases h
theorem cycleTimerExpiry : Statement .cycleTimerExpiry := fun _ _ h => by cases h
theorem shaftEdge : Statement .shaftEdge := fun _ _ h => by cases h
theorem stallTimerExpiry : Statement .stallTimerExpiry := fun _ _ h => by cases h
theorem headerOpens : Statement .headerOpens := fun _ _ h => by cases h
theorem headerCloses : Statement .headerCloses := fun _ _ h => by cases h
theorem headerTimerExpiry : Statement .headerTimerExpiry := fun _ _ h => by cases h
theorem retryTimerExpiry : Statement .retryTimerExpiry := fun _ _ h => by cases h
theorem dutyTimerExpiry : Statement .dutyTimerExpiry := fun _ _ h => by cases h
theorem guardTimerExpiry : Statement .guardTimerExpiry := fun _ _ h => by cases h
theorem startTimeout : Statement .startTimeout := fun _ _ h => by cases h
theorem stopTimeout : Statement .stopTimeout := fun _ _ h => by cases h
theorem pulseTimerExpiry : Statement .pulseTimerExpiry := fun _ _ h => by cases h
theorem minRunExpiry : Statement .minRunExpiry := fun _ _ h => by cases h
theorem minStopExpiry : Statement .minStopExpiry := fun _ _ h => by cases h
theorem startRingAgeExpiry : Statement .startRingAgeExpiry := fun _ _ h => by cases h
theorem minuteTimerExpiry : Statement .minuteTimerExpiry := fun _ _ h => by cases h
theorem runCloses : Statement .runCloses := fun _ _ h => by cases h
theorem runOpens : Statement .runOpens := fun _ _ h => by cases h
theorem tripCloses : Statement .tripCloses := fun _ _ h => by cases h
theorem tripOpens : Statement .tripOpens := fun _ _ h => by cases h
theorem localCloses : Statement .localCloses := fun _ _ h => by cases h
theorem localOpens : Statement .localOpens := fun _ _ h => by cases h
theorem ackRisingEdge : Statement .ackRisingEdge := fun _ _ h => by cases h
theorem statusTimerExpiry : Statement .statusTimerExpiry := fun _ _ h => by cases h
theorem attemptBegin : Statement .attemptBegin := fun _ _ h => by cases h
theorem transmitCompletion : Statement .transmitCompletion := fun _ _ h => by cases h
theorem collision : ∀ n g, Statement (.collision n g) := by
  intro n g _ _ h; cases h
theorem backoffEnd : Statement .backoffEnd := fun _ _ h => by cases h
theorem accessTimerExpiry : Statement .accessTimerExpiry := fun _ _ h => by cases h
theorem receiverArmed : Statement .receiverArmed := fun _ _ h => by cases h
theorem frameAbandoned : Statement .frameAbandoned := fun _ _ h => by cases h
theorem invalidFrame : ∀ f, Statement (.invalidFrame f) := by
  intro f _ _ h; cases h
theorem statusFrame : ∀ f, Statement (.statusFrame f) := by
  intro f _ _ h; cases h
theorem claimFrame : ∀ f, Statement (.claimFrame f) := by
  intro f _ _ h; cases h
theorem releaseFrame : ∀ f, Statement (.releaseFrame f) := by
  intro f _ _ h; cases h
theorem orderFrame : ∀ f, Statement (.orderFrame f) := by
  intro f _ _ h; cases h
theorem writeEnableDone : Statement .writeEnableDone := fun _ _ h => by cases h
theorem pageWriteDone : Statement .pageWriteDone := fun _ _ h => by cases h
theorem pollTimerExpiry : Statement .pollTimerExpiry := fun _ _ h => by cases h
theorem readStatusDone : ∀ v, Statement (.readStatusDone v) := by
  intro v _ _ h; cases h
theorem ackFallingEdge : Statement .ackFallingEdge := fun _ _ h => by cases h
theorem nonSyncCharacter : Statement .nonSyncCharacter := fun _ _ h => by cases h

end Sys2Proof.Laws.Unspelled
end

