-- ==== Sys2Proof/Laws/Pump.lean ====
section
/-! SUPPORT. Sys2Proof/Laws/Pump.lean: what the pump controller's operations leave inside the parts they touch: of the conditions all but
PUMP TRIP and PUMP FAIL, of the fouling monitor all but the running mark and the settle hold, of the loader all but the record write,
and the start ring, which only a start's entry and an expiry of its age move. -/

namespace Sys2Proof.Machine

/-- From s to t nothing of the conditions, the fouling monitor and the loader has moved but what follows the pump state. -/
structure PumpOnly (s t : State) : Prop where
  conds   : t.conds = { s.conds with pumpTrip := t.conds.pumpTrip, pumpFail := t.conds.pumpFail }
  fouling : t.fouling = { s.fouling with runningMark := t.fouling.runningMark, settleTimer := t.fouling.settleTimer }
  loader  : t.loader = { s.loader with
    write := t.loader.write, writePending := t.loader.writePending, spi := t.loader.spi }

/-- The start ring stands as it was. -/
structure RingKept (s t : State) : Prop where
  ring    : t.pump.ring = s.pump.ring
  pointer : t.pump.pointer = s.pump.pointer
  age     : t.pump.ageTimer = s.pump.ageTimer

theorem PumpOnly.refl (s : State) : PumpOnly s s := ⟨rfl, rfl, rfl⟩

theorem PumpOnly.trans {s t u : State} (h : PumpOnly s t) (k : PumpOnly t u) : PumpOnly s u := by
  refine ⟨?_, ?_, ?_⟩
  · rw [k.conds, h.conds]
  · rw [k.fouling, h.fouling]
  · rw [k.loader, h.loader]

/-- Equal parts: nothing of the three has moved. -/
theorem PumpOnly.of_eq {s t : State} (h1 : t.conds = s.conds) (h2 : t.fouling = s.fouling) (h3 : t.loader = s.loader) :
    PumpOnly s t := ⟨by rw [h1], by rw [h2], by rw [h3]⟩

theorem RingKept.refl (s : State) : RingKept s s := ⟨rfl, rfl, rfl⟩

theorem RingKept.trans {s t u : State} (h : RingKept s t) (k : RingKept t u) : RingKept s u :=
  ⟨k.ring.trans h.ring, k.pointer.trans h.pointer, k.age.trans h.age⟩

/-! ### The duty record and counted running -/

theorem requestWrite_loader (s : State) : (requestWrite s).loader = { s.loader with
    write := (requestWrite s).loader.write, writePending := (requestWrite s).loader.writePending,
    spi := (requestWrite s).loader.spi } := by
  unfold requestWrite
  split <;> rfl

theorem requestWrite_pumpOnly (s : State) : PumpOnly s (requestWrite s) :=
  ⟨by simp, by simp, requestWrite_loader s⟩

theorem addMinute_pumpOnly (s : State) : PumpOnly s (addMinute s) := by
  unfold addMinute
  dsimp only
  split
  · split
    · refine PumpOnly.trans ?_ (requestWrite_pumpOnly _)
      exact .of_eq rfl rfl rfl
    · exact .of_eq rfl rfl rfl
  · exact .refl s

theorem stopMinutes_pumpOnly (s : State) : PumpOnly s (stopMinutes s) := by
  unfold stopMinutes
  dsimp only
  split
  · split
    · refine PumpOnly.trans ?_ (addMinute_pumpOnly _)
      exact .of_eq rfl rfl rfl
    · exact .of_eq rfl rfl rfl
  · exact .refl s

theorem countedChanged_pumpOnly (x : Ctx) (s : State) : PumpOnly s (countedChanged x s) := by
  unfold countedChanged
  dsimp only
  split
  · exact ⟨by simp, by simp, by simp⟩
  · refine PumpOnly.trans (PumpOnly.trans ?_ (stopMinutes_pumpOnly _)) (requestWrite_pumpOnly _)
    exact ⟨rfl, rfl, rfl⟩

theorem noteCounted_pumpOnly (x : Ctx) (was : Bool) (s : State) : PumpOnly s (noteCounted x was s) := by
  unfold noteCounted
  split
  · exact .refl s
  · exact countedChanged_pumpOnly x s

/-! ### The pump state -/

theorem setPump_pumpOnly (x : Ctx) (p : PumpState) (s : State) : PumpOnly s (setPump x p s) := by
  unfold setPump
  split
  · exact .refl s
  · dsimp only
    refine PumpOnly.trans (PumpOnly.trans (t := offerStatus x { s with pump := { s.pump with state := p } })
      (.of_eq (by simp) (by simp) (by simp)) (noteCounted_pumpOnly x (countedRunning s) _)) ⟨?_, ?_, ?_⟩
    · simp [Conds.set]
    · simp
    · simp only [setCond_frame]

theorem setPump_ringKept (x : Ctx) (p : PumpState) (s : State) : RingKept s (setPump x p s) := ⟨by simp, by simp, by simp⟩

theorem enterStopped_pumpOnly (x : Ctx) (s : State) : PumpOnly s (enterStopped x s) := by
  unfold enterStopped
  refine PumpOnly.trans ?_ (setPump_pumpOnly x .stopped _)
  exact .of_eq rfl rfl rfl

theorem enterStopping_pumpOnly (x : Ctx) (s : State) : PumpOnly s (enterStopping x s) := by
  unfold enterStopping
  refine PumpOnly.trans ?_ (setPump_pumpOnly x .stopping _)
  exact .of_eq rfl rfl rfl

theorem protectOnEntry_pumpOnly (x : Ctx) (s : State) : PumpOnly s (protectOnEntry x s) := by
  unfold protectOnEntry
  split
  · exact enterStopping_pumpOnly x s
  · exact .refl s

theorem takeOverRunning_pumpOnly (x : Ctx) (s : State) : PumpOnly s (takeOverRunning x s) := by
  unfold takeOverRunning
  refine PumpOnly.trans (PumpOnly.trans ?_ (setPump_pumpOnly x .running _)) (protectOnEntry_pumpOnly x _)
  exact .of_eq rfl rfl rfl

theorem enterRunning_pumpOnly (x : Ctx) (s : State) : PumpOnly s (enterRunning x s) := by
  unfold enterRunning
  refine PumpOnly.trans (PumpOnly.trans ?_ (setPump_pumpOnly x .running _)) (protectOnEntry_pumpOnly x _)
  exact .of_eq rfl rfl rfl

theorem enterFailed_pumpOnly (x : Ctx) (s : State) : PumpOnly s (enterFailed x s) := by
  unfold enterFailed
  refine PumpOnly.trans ?_ (setPump_pumpOnly x .failed _)
  exact .of_eq rfl rfl rfl

theorem enterTripped_pumpOnly (x : Ctx) (s : State) : PumpOnly s (enterTripped x s) := by
  unfold enterTripped
  refine PumpOnly.trans ?_ (setPump_pumpOnly x .tripped _)
  exact .of_eq rfl rfl rfl

theorem enterLocked_pumpOnly (x : Ctx) (s : State) : PumpOnly s (enterLocked x s) := by
  unfold enterLocked
  refine PumpOnly.trans ?_ (setPump_pumpOnly x .locked _)
  exact .of_eq rfl rfl rfl

theorem withdrawStart_pumpOnly (x : Ctx) (cause : Cause) (s : State) : PumpOnly s (withdrawStart x cause s) := by
  unfold withdrawStart
  refine PumpOnly.trans ?_ (setPump_pumpOnly x .stopped _)
  exact .of_eq rfl rfl rfl

theorem checkPending_pumpOnly (x : Ctx) (s : State) : PumpOnly s (checkPending x s) := by
  unfold checkPending
  split
  · split
    · exact withdrawStart_pumpOnly x _ s
    · exact .refl s
  · exact .refl s

theorem protectiveStop_pumpOnly (x : Ctx) (cause : Cause) (s : State) : PumpOnly s (protectiveStop x cause s) := by
  unfold protectiveStop
  split
  all_goals first
    | exact enterStopping_pumpOnly x s
    | exact withdrawStart_pumpOnly x cause s
    | exact .refl s

theorem enterStarting_pumpOnly (x : Ctx) (s : State) : PumpOnly s (enterStarting x s) := by
  unfold enterStarting
  refine PumpOnly.trans (PumpOnly.trans ?_ (setPump_pumpOnly x .starting _)) (protectOnEntry_pumpOnly x _)
  exact .of_eq rfl rfl rfl

theorem comparePeer_pumpOnly (x : Ctx) (b : Bay) (r : Report) (s : State) : PumpOnly s (comparePeer x b r s) := by
  unfold comparePeer
  split
  · split
    · exact withdrawStart_pumpOnly x _ s
    · split
      · exact withdrawStart_pumpOnly x _ s
      · exact .refl s
    · exact .refl s
  · exact .refl s

theorem comparePeers_pumpOnly (x : Ctx) (s : State) : PumpOnly s (comparePeers x s) := by
  unfold comparePeers
  refine foldl_keeps_law (P := PumpOnly s) _ (fun t b h => ?_) _ (.refl s)
  split
  · exact h.trans (comparePeer_pumpOnly x b _ t)
  · exact h

theorem takeStartWish_pumpOnly (x : Ctx) (s : State) : PumpOnly s (takeStartWish x s) := by
  unfold takeStartWish
  split
  · refine PumpOnly.trans (PumpOnly.trans ?_ (setPump_pumpOnly x .startPending _)) (comparePeers_pumpOnly x _)
    exact .of_eq rfl rfl rfl
  · exact .refl s

theorem takeStopWish_pumpOnly (x : Ctx) (s : State) : PumpOnly s (takeStopWish x s) := by
  unfold takeStopWish
  split
  · exact enterStopping_pumpOnly x s
  · exact .refl s

theorem ackAtPump_pumpOnly (x : Ctx) (s : State) : PumpOnly s (ackAtPump x s) := by
  unfold ackAtPump
  split
  · split
    · exact takeOverRunning_pumpOnly x s
    · exact enterStopped_pumpOnly x s
  · exact .refl s

theorem conflictAtPump_pumpOnly (x : Ctx) (s : State) : PumpOnly s (conflictAtPump x s) := by
  unfold conflictAtPump
  refine PumpOnly.trans ?_ (checkPending_pumpOnly x _)
  split <;> exact .of_eq rfl rfl rfl

theorem runClosedInState_pumpOnly (x : Ctx) (s : State) : PumpOnly s (runClosedInState x s) := by
  unfold runClosedInState
  split
  all_goals first
    | exact enterFailed_pumpOnly x s
    | exact enterRunning_pumpOnly x s
    | exact .refl s

theorem runOpenedInState_pumpOnly (x : Ctx) (s : State) : PumpOnly s (runOpenedInState x s) := by
  unfold runOpenedInState
  split
  · exact enterFailed_pumpOnly x s
  · split
    · exact .refl s
    · exact enterStopped_pumpOnly x s
  all_goals exact .refl s

theorem leaveLocked_pumpOnly (x : Ctx) (s : State) : PumpOnly s (leaveLocked x s) := by
  unfold leaveLocked
  split
  · exact enterTripped_pumpOnly x s
  · split
    · exact takeOverRunning_pumpOnly x s
    · exact enterStopped_pumpOnly x s

/-! ### The start ring -/

theorem enterStopping_ringKept (x : Ctx) (s : State) : RingKept s (enterStopping x s) := ⟨by simp [enterStopping], by simp [enterStopping], by simp [enterStopping]⟩

theorem withdrawStart_ringKept (x : Ctx) (cause : Cause) (s : State) : RingKept s (withdrawStart x cause s) :=
  ⟨by simp [withdrawStart], by simp [withdrawStart], by simp [withdrawStart]⟩

theorem checkPending_ringKept (x : Ctx) (s : State) : RingKept s (checkPending x s) := by
  unfold checkPending
  split
  · split
    · exact withdrawStart_ringKept x _ s
    · exact .refl s
  · exact .refl s

theorem protectiveStop_ringKept (x : Ctx) (cause : Cause) (s : State) : RingKept s (protectiveStop x cause s) := by
  unfold protectiveStop
  split
  all_goals first
    | exact enterStopping_ringKept x s
    | exact withdrawStart_ringKept x cause s
    | exact .refl s

end Sys2Proof.Machine
end

