-- ==== Sys2Proof/Tests/Slice0.lean ====
section
/-! SUPPORT. Sys2Proof/Tests/Slice0.lean: the smoke test of WellFormed, small tests of one event each with the values of the spec's own
tables and examples, and for every obligation with hypotheses the witness that they can be met. -/

open Sys2Proof Sys2Proof.Machine

namespace Sys2Proof.Tests

set_option Elab.async false

/-! ### The station of the tests -/

/-- The values of the spec's examples, where it gives them. -/
def settings : Settings :=
  { linkRate := 0, statusPeriod := 8, silentLimit := 3, quietAfter := 3, isolatedAfter := 6, demandTimeout := 28,
    defaultDemand := 2, outer := ⟨-2500, 10000⟩, inner := ⟨-3000, 8000⟩, filterShift := 2, headStopped := 60,
    headRunning := 120, headBlocked := 600, settleTime := 20, washThreshold := 40, urgentThreshold := 80,
    surgeThreshold := 30, washHeaders := 1, routineSet := ⟨3, 200, 20⟩, stormSet := ⟨4, 120, 10⟩, maxWashInterval := 10,
    minWashGap := 10, claimMargin := 5, shaftPrescale := 2, stallSlow := 50, stallFast := 20, headerDelay := 5,
    washRetry := 10, tideInterval := 2, levelLL := -2200, levelL := -1500, levelH := 3000, levelHH := 4000,
    tideHysteresis := 100, tidePersistence := 3, rateWindow := 4, rateThreshold := 100, suspectTolerance := 300,
    suspectPersistence := 2, capLow := 4, capLowLow := 2, foulingWeight := 4, marginRef := 1500, pumpStopLevel := -2000,
    pumpRestartLevel := -1500, runAllowance := 30, dutyInterval := 10, startGuard := 3, startPulse := 10, stopPulse := 10,
    startTimeout := 10, stopTimeout := 10, minRun := 30, minStop := 5, startLimit := 3, trendInterval := 1, swarmStep := 5,
    swarmCount := 1, swarmUrgentSum := 10, alarmEnable := 0x01F7FF#24 }

/-- Those settings laid out by the table of 11.8, with the CRC of R171 worked out apart from the model. -/
def image : List Byte :=
  [0x00#8, 0x08#8, 0x03#8, 0x03#8, 0x06#8, 0x1C#8, 0x02#8, 0xF6#8, 0x3C#8, 0x27#8] ++
  [0x10#8, 0xF4#8, 0x48#8, 0x1F#8, 0x40#8, 0x02#8, 0x00#8, 0x3C#8, 0x00#8, 0x78#8] ++
  [0x02#8, 0x58#8, 0x14#8, 0x28#8, 0x50#8, 0x1E#8, 0x01#8, 0x03#8, 0x00#8, 0xC8#8] ++
  [0x00#8, 0x14#8, 0x04#8, 0x00#8, 0x78#8, 0x00#8, 0x0A#8, 0x00#8, 0x0A#8, 0x0A#8] ++
  [0x05#8, 0x02#8, 0x32#8, 0x14#8, 0x05#8, 0x0A#8, 0x02#8, 0xF7#8, 0x68#8, 0xFA#8] ++
  [0x24#8, 0x0B#8, 0xB8#8, 0x0F#8, 0xA0#8, 0x00#8, 0x64#8, 0x03#8, 0x04#8, 0x00#8] ++
  [0x64#8, 0x01#8, 0x2C#8, 0x02#8, 0x04#8, 0x02#8, 0x04#8, 0x05#8, 0xDC#8, 0xF8#8] ++
  [0x30#8, 0xFA#8, 0x24#8, 0x1E#8, 0x0A#8, 0x03#8, 0x0A#8, 0x0A#8, 0x0A#8, 0x0A#8] ++
  [0x1E#8, 0x05#8, 0x03#8, 0x01#8, 0x05#8, 0x01#8, 0x00#8, 0x0A#8, 0x01#8, 0xF7#8] ++
  [0xFF#8, 0x00#8, 0x00#8, 0x00#8, 0x00#8, 0x00#8, 0x00#8, 0x00#8, 0xE1#8, 0x87#8]

/-- A reset has ended and the READ of the image is under way at bay 3. -/
def loading : State :=
  { State.reset with
    inReset := false, loader := { Loader.reset with bay := some 2, spi := some (.read 0 100) } }

/-- Bay 3 in OPERATING with every periodic timer due at the clock's 1000 ms. -/
def live : State :=
  { State.reset with
    inReset := false, clock := 1000, ageingTimer := some 1000, lines := { Lines.reset with header := true },
    front := ⟨some 1000, LoopRecord.reset, LoopRecord.reset⟩,
    peers := State.reset.peers.set 2 ⟨.present, 0, Report.reset⟩,
    tide := { Tide.reset with timer := some 1000 }, fouling := { Fouling.reset with trendTimer := some 1000 },
    claims := ⟨[], some 1000⟩, duty := { Duty.reset with timer := some 1000 },
    link := { Link.reset with tx := .idle, statusTimer := some 1000 },
    loader := { Loader.reset with phase := .operating, bay := some 2, cfg := some settings, mark := .good } }

def own : Ctx := ⟨2, settings⟩

/-- The state after a command. -/
def after (c : Instr) (s : State) : State :=
  match exec c s with
  | .next t => t
  | _ => s

theorem exec_after (c : Instr) (s : State) : exec c s = .next (after c s) := by
  cases c <;> rfl

theorem due : reached 1000#32 1000#32 = true := by decide +kernel

/-- A frame with its length and CRC. -/
def frame (kind bay : Byte) (p : List Byte) : Frame :=
  { kind := kind, bay := bay, len := byte p.length, payload := p, crc := crc (kind :: bay :: byte p.length :: p) }

/-- The report of a GOOD, STOPPED station with nothing else to tell. -/
def calm : Report := Report.reset

def statusOf5 (r : Report) : Frame := frame 0x11#8 5#8 (encodeReport r)

def claimOf5 : Frame := frame 0x22#8 5#8 [9#8, 0#8, 2#8, 0x58#8]

def releaseOf5 : Frame := frame 0x33#8 5#8 [9#8]

def order40 : Frame := frame 0x44#8 0#8 [40#8, 3#8, 2#8, 0#8, 0x04#8, 0#8, 0x04#8]

/-- Hears frames: the receiver is armed. -/
def hearing : State := { live with link := { live.link with receiver := .armed } }

/-! ### WellFormed -/

theorem test_image_of_99_bytes_is_ill_formed : (Instr.configImageReadDone (image.take 99)).wellFormed = false := by decide +kernel
theorem test_record_of_6_bytes_is_ill_formed : (Instr.dutyRecordReadDone [0, 0, 0, 0, 0, 0]).wellFormed = false := by decide +kernel
theorem test_valid_frame_is_no_invalid_frame : (Instr.invalidFrame releaseOf5).wellFormed = false := by decide +kernel
theorem test_incomplete_frame_is_no_invalid_frame :
    (Instr.invalidFrame { releaseOf5 with len := 2#8 }).wellFormed = false := by decide +kernel
theorem test_status_of_another_kind_is_ill_formed : (Instr.statusFrame claimOf5).wellFormed = false := by decide +kernel
theorem test_claim_with_bad_crc_is_ill_formed : (Instr.claimFrame { claimOf5 with crc := 0#16 }).wellFormed = false := by decide +kernel
theorem test_release_of_bay_13_is_ill_formed : (Instr.releaseFrame (frame 0x33#8 13#8 [9#8])).wellFormed = false := by decide +kernel
theorem test_order_of_bay_1_is_ill_formed :
    (Instr.orderFrame (frame 0x44#8 1#8 [0, 0, 0, 0, 0, 0, 0])).wellFormed = false := by decide +kernel
theorem test_collision_after_29_characters_is_ill_formed : (Instr.collision 29 .nothing).wellFormed = false := by decide +kernel
theorem test_well_formed_terms :
    (Instr.configImageReadDone image).wellFormed = true ∧ (Instr.claimFrame claimOf5).wellFormed = true ∧
    (Instr.releaseFrame releaseOf5).wellFormed = true ∧ (Instr.orderFrame order40).wellFormed = true ∧
    (Instr.collision 28 .nothing).wellFormed = true ∧ (Instr.invalidFrame { releaseOf5 with crc := 0#16 }).wellFormed = true := by
  decide +kernel

/-! ### The layouts of 11.8 and the CRC of 11.9 -/

/-- The CRC of the nine characters 1 to 9 under the generator and the start value of R171, worked out apart from the model. -/
theorem test_crc_check_value :
    crc [0x31#8, 0x32#8, 0x33#8, 0x34#8, 0x35#8, 0x36#8, 0x37#8, 0x38#8, 0x39#8] = 0x29B1#16 := by decide +kernel

theorem test_image_fields : imageFields image = settings := by decide +kernel

/-- Fourteen bytes of the image, from the n-th fourteen. -/
def fourteen (n : Nat) : List Byte := (image.drop (14 * n)).take 14

theorem fourteen_0 : (fourteen 0).foldl crcByte 0xFFFF#16 = 0x439E#16 := by decide +kernel
theorem fourteen_1 : (fourteen 1).foldl crcByte 0x439E#16 = 0x60C1#16 := by decide +kernel
theorem fourteen_2 : (fourteen 2).foldl crcByte 0x60C1#16 = 0x090F#16 := by decide +kernel
theorem fourteen_3 : (fourteen 3).foldl crcByte 0x090F#16 = 0x4DD0#16 := by decide +kernel
theorem fourteen_4 : (fourteen 4).foldl crcByte 0x4DD0#16 = 0x6C33#16 := by decide +kernel
theorem fourteen_5 : (fourteen 5).foldl crcByte 0x6C33#16 = 0x3398#16 := by decide +kernel
theorem fourteen_6 : (fourteen 6).foldl crcByte 0x3398#16 = 0xE187#16 := by decide +kernel

theorem fourteens :
    image.take 98 = fourteen 0 ++ fourteen 1 ++ fourteen 2 ++ fourteen 3 ++ fourteen 4 ++ fourteen 5 ++ fourteen 6 := by
  decide +kernel

theorem test_image_crc : crc (image.take 98) = 0xE187#16 := by
  rw [fourteens, crc]
  simp only [List.foldl_append, fourteen_0, fourteen_1, fourteen_2, fourteen_3, fourteen_4, fourteen_5, fourteen_6]

theorem test_image_is_accepted : readImage image = some settings := by
  have h1 : image.length = 100 := by decide +kernel
  have h2 : imageCrcAgrees image = true := by rw [imageCrcAgrees, test_image_crc]; decide +kernel
  have h3 : paddingZero image = true := by decide +kernel
  have h4 : settingsAllowed settings = true := by decide +kernel
  simp [readImage, test_image_fields, h1, h2, h3, h4]

/-- 71400 minutes are 0x0116E8; the CRC worked out apart from the model. -/
def record71400 : List Byte := [0x01#8, 0x16#8, 0xE8#8, 0x2E#8, 0x5F#8]

theorem test_record_is_read : readRecord record71400 = some 71400 := by decide +kernel

/-- The bytes of a STATUS by the table of 11.8, of a report with every field its own. -/
theorem test_status_payload :
    encodeReport
      { restart := true, swarm := false, demandHeld := true, outerSuspect := false, eligible := true, startable := false,
        runFeedback := true, foulingStale := false, stage := .isolated, outerSensor := .under, innerSensor := .over,
        pumpState := .locked, cause := .betterStarter, wash := .yielded, cls := .urgent, tag := 11, fouling := 77,
        outerLevel := -2, innerLevel := 1250, runHours := 1190, starts := 3, score := 855, screenPeriod := 3600,
        swarmIntensity := 1200, alarms := (Vector.replicate 17 .normal).set 0 .returned |>.set 16 .acked } =
    [0x55#8, 0x26#8, 0x57#8, 0xBC#8, 77#8, 0xFF#8, 0xFE#8, 0x04#8, 0xE2#8, 0x04#8, 0xA6#8, 3#8, 0x03#8, 0x57#8, 0x0E#8, 0x10#8,
     0x04#8, 0xB0#8, 0x03#8, 0#8, 0#8, 0#8, 0x02#8] := by decide +kernel

/-! ### Values of the spec's tables and examples -/

/-- The table of 1.3. -/
theorem test_conversion :
    levelOfCode settings.outer 2000 = 1250 ∧ levelOfCode settings.outer 1001 = -1872 ∧ levelOfCode settings.outer 780 = -2500 ∧
    levelOfCode settings.outer 4030 = 7500 ∧ levelOfCode settings.inner 1500 = -1250 ∧
    levelOfCode settings.inner 1473 = -1318 := by decide +kernel

/-- Samples 1, 7, 8 and 11 of the example of 1.4. -/
theorem test_faults_and_restoration :
    sampleLoop 2 settings.outer 2000 ⟨.good, false, 3, 0, 4800, 1200⟩ = ⟨.good, false, 3, 0, 4850, 1212⟩ ∧
    sampleLoop 2 settings.outer 0 ⟨.good, false, 0, 2, 4888, 1222⟩ = ⟨.under, false, 0, 3, 4888, 1222⟩ ∧
    sampleLoop 2 settings.outer 4095 ⟨.under, false, 0, 3, 4888, 1222⟩ = ⟨.over, false, 0, 3, 4888, 1222⟩ ∧
    sampleLoop 2 settings.outer 2000 ⟨.over, false, 2, 0, 4888, 1222⟩ = ⟨.good, false, 3, 0, 5000, 1250⟩ := by decide +kernel

/-- Expiries 1 and 3 of the start of sampling of 1.4. -/
theorem test_start_of_sampling :
    sampleLoop 2 settings.inner 1500 LoopRecord.reset = ⟨.good, false, 1, 0, -5000, -1250⟩ ∧
    sampleLoop 2 settings.inner 1473 ⟨.good, false, 2, 0, -5068, -1267⟩ = ⟨.good, false, 3, 0, -5119, -1280⟩ := by decide +kernel

/-- SAMPLE_TIMER_EXPIRY gives each code to its loop (1.3, R2), and the pair gives F against Hs (4.2). -/
theorem test_sample_goes_to_its_loop :
    (after (.sampleTimerExpiry 2000 2362) live).front.outer.level = 1250 ∧
    (after (.sampleTimerExpiry 2000 2362) live).front.inner.level = 905 ∧
    (after (.sampleTimerExpiry 2000 2362) live).fouling.index = 47 := by decide +kernel

/-- The table of 3.2. -/
theorem test_medians :
    median [1262, 1231] = some 1246 ∧ median [1262, 1250, 1231] = some 1250 ∧ median [2100, 1231, 1262, 1250] = some 1256 ∧
    median [-1250, -1251] = some (-1251) := by decide +kernel

/-- Evaluations 4, 7 and 14 of the LOW example of 3.4. -/
theorem test_low_with_persistence :
    judgedLow settings (-1500) (-1490) false ⟨2, 0⟩ = (false, ⟨0, 0⟩) ∧
    judgedLow settings (-1500) (-1560) false ⟨2, 0⟩ = (true, ⟨0, 0⟩) ∧
    judgedLow settings (-1500) (-1450) true ⟨0, 0⟩ = (true, ⟨0, 0⟩) ∧
    judgedLow settings (-1500) (-1350) true ⟨0, 2⟩ = (false, ⟨0, 0⟩) := by decide +kernel

/-- The table of 4.2. -/
theorem test_fouling_index :
    foulingOfHead 345 120 600 = 37 ∧ foulingOfHead 345 60 600 = 47 ∧ foulingOfHead (-150) 120 600 = 0 ∧
    foulingOfHead 850 120 600 = 100 ∧ foulingOfHead 719 120 600 = 99 ∧ foulingOfHead 720 120 600 = 100 := by decide +kernel

/-- SCREEN BLOCKED at pairs 2 and 3 and after the hold (4.5). -/
theorem test_screen_blocked :
    blockedAfter settings false 98 false = false ∧ blockedAfter settings false 100 false = true ∧
    blockedAfter settings true 41 false = true ∧ blockedAfter settings true 15 false = false := by decide +kernel

/-- The tie orders of 7.11 at rotation 2, and those of 8.3. -/
theorem test_tie_orders :
    tieOrder 2 0 = 10 ∧ tieOrder 2 1 = 11 ∧ tieOrder 2 2 = 0 ∧ tieOrder 2 4 = 2 ∧ tieOrder 0 4 = 4 := by decide +kernel

/-- U = 1, K = 3, demand 4 and cap 3 (7.11). -/
theorem test_target : targetCount 4 3 1 3 = 2 := by decide +kernel

/-- Bay 2 of the table of 7.5: 1180 hours, F = 10, Li = -1000: 41. -/
theorem test_score :
    candidateScore own ⟨1, false, true, true, .stopped, false, 1180, 1023⟩
      [⟨0, true, true, false, .running, true, 1200, 27⟩]
      { live with
        fouling := { live.fouling with index := 10 },
        front := { live.front with inner := { live.front.inner with level := -1000 } } } = 41 := by decide +kernel

/-! ### One command -/

theorem test_straps_13_halt : (after (.resetEnd 13) State.reset).loader.phase = .halted := by decide +kernel
theorem test_straps_5_read_the_image :
    (after (.resetEnd 5) State.reset).loader.bay = some 4 ∧
    (after (.resetEnd 5) State.reset).loader.spi = some (.read 0 100) := by decide +kernel

/-- 71400 minutes come back from the record, and RUN closed is RUNNING with min_run elapsed (11.5). -/
theorem test_record_and_adoption :
    let s := { loading with
      lines := { loading.lines with run := true },
      loader := { loading.loader with cfg := some settings, spi := some (.read 128 5) } }
    (after (.dutyRecordReadDone record71400) s).pump.runMinutes = 71400 ∧
    (after (.dutyRecordReadDone record71400) s).pump.state = .running ∧
    (after (.dutyRecordReadDone record71400) s).pump.minRunTimer = none := by decide +kernel

/-- The third expiry without a frame makes a bay SILENT and the stage QUIET (2.2, 2.5). -/
theorem test_third_ageing_expiry :
    let s := { live with peers := live.peers.set 4 ⟨.present, 2, Report.reset⟩, ladder := ⟨2, .linked⟩ }
    (after .ageingTimerExpiry s).peers[4].presence = .silent ∧ (after .ageingTimerExpiry s).ladder.stage = .quiet := by
  decide +kernel

/-- Demand 15 is clamped to 12 and rotation 13 becomes 1 (2.4). -/
theorem test_order_is_clamped :
    (after (.orderFrame (frame 0x44#8 0#8 [41, 15, 13, 0, 0, 0, 0])) hearing).order =
      ⟨true, some 41#8, 12, 1, 0, false⟩ := by decide +kernel

/-- 14 ageing expiries without an ORDER set DEMAND HELD, 13 do not (2.4). -/
theorem test_demand_held :
    (after .ageingTimerExpiry { live with order := ⟨true, some 41#8, 12, 1, 13, false⟩ }).order.demandHeld = true ∧
    (after .ageingTimerExpiry { live with order := ⟨true, some 41#8, 12, 1, 12, false⟩ }).order.demandHeld = false := by
  decide +kernel

/-- A lost record is made good by the median of the peers' hours: 71400 minutes (11.5). -/
theorem test_hours_are_adopted :
    let peer (h : Nat) : PeerEntry := ⟨.present, 0, { Report.reset with runHours := h }⟩
    let s := { live with
      peers := ((live.peers.set 1 (peer 1180)).set 4 (peer 1250)).set 6 (peer 1190),
      loader := { live.loader with phase := .listening, mark := .lost, window := 1 } }
    (after .ageingTimerExpiry s).pump.runMinutes = 71400 ∧ (after .ageingTimerExpiry s).loader.phase = .operating := by
  decide +kernel

/-- A cycle end taken 250 ms late: the fresh cycle's target is a period from the target before it (R1). -/
theorem test_cycle_does_not_drift :
    let s := { live with
      clock := 1250,
      screen := { live.screen with wash := .washing, working := settings.routineSet, cycleCount := 199, cycleTimer := some 1000 } }
    (after .cycleTimerExpiry s).screen.cycleCount = 0 ∧ (after .cycleTimerExpiry s).screen.cycleTimer = some 1100#32 := by
  decide +kernel

/-- SWARM turns the drive on: the capture of an earlier spell is cleared and the window is the slow one, 5 s (R105, R106). -/
theorem test_turn_on_clears_the_capture :
    let s := { live with
      tide := { live.tide with valid := true }, fouling := { live.fouling with swarm := true },
      screen := { live.screen with prescale := 3, lastCapture := some 500, period := 3600 } }
    let t := (selectDrive own s).screen
    t.drive = .slow ∧ t.prescale = 0 ∧ t.lastCapture = none ∧ t.period = 0 ∧ t.stallTimer = some 6000#32 := by decide +kernel

/-- The fourth edge at prescale 2, 3600 ms after the last capture (6.8). -/
theorem test_shaft_period :
    let s := { live with
      clock := 7200, screen := { live.screen with drive := .slow, prescale := 3, lastCapture := some 3600 } }
    (after .shaftEdge s).screen.period = 3600 ∧ (after .shaftEdge s).screen.stallTimer = some 12200#32 := by decide +kernel

/-- HEADER opens under SPRAY at 18.0 s: the target is 23.0 s; the expiry is WASH WATER FAIL (6.9). -/
theorem test_header_opens :
    (after .headerOpens { live with clock := 18000, screen := { live.screen with wash := .washing, spray := true } }).screen.headerTimer
      = some 23000#32 := by decide +kernel

/-- Count 20 is compare A of the routine set; count 200 is compare B, and the third cycle ends the wash (6.3, 6.5). -/
theorem test_cycle :
    let s (n k : Nat) := { live with screen := { live.screen with
      wash := .washing, working := settings.routineSet, cycleCount := n, completed := k, cycleTimer := some 1000,
      spray := 20 ≤ n } }
    (after .cycleTimerExpiry (s 19 0)).screen.spray = true ∧ (after .cycleTimerExpiry (s 199 0)).screen.spray = false ∧
    (after .cycleTimerExpiry (s 199 0)).screen.wash = .washing ∧ (after .cycleTimerExpiry (s 199 2)).screen.wash = .releasing := by
  decide +kernel

/-- The first slot of the start ring empties at 60 minutes, and the age timer moves to 72 (8.7). -/
theorem test_start_ages :
    let s := { live with clock := 3600000, pump := { live.pump with
      ring := ((live.pump.ring.set 0 (some 0)).set 1 (some 720000)).set 2 (some 1500000), pointer := 3,
      ageTimer := some 3600000 } }
    (after .startRingAgeExpiry s).pump.ageTimer = some 4320000#32 ∧ startsInLastHour (after .startRingAgeExpiry s) = 2 := by
  decide +kernel

/-- A start with no feedback fails, and the ACK edge then leads to STOPPED with min_stop ahead (8.4). -/
theorem test_start_fails_and_is_acknowledged :
    let s := { live with pump := { live.pump with state := .starting, feedbackTimer := some 1000, minuteTimer := some 60000 } }
    (after .startTimeout s).pump.state = .failed ∧ (after .startTimeout s).pump.pulse = some .stop ∧
    (after .ackRisingEdge (after .startTimeout s)).pump.state = .stopped ∧
    (after .ackRisingEdge (after .startTimeout s)).pump.minStopTimer = some 301000#32 := by decide +kernel

/-- The guard's end starts the pump with a pulse of 1.0 s (8.3, 8.4). -/
theorem test_guard_ends :
    let s := { live with pump := { live.pump with state := .startPending, guardTimer := some 1000 } }
    (after .guardTimerExpiry s).pump.state = .starting ∧ (after .guardTimerExpiry s).pump.pulseTimer = some 2000#32 := by
  decide +kernel

/-- A whole hour of run time requests a record write (8.9). -/
theorem test_hour_is_written :
    (after .minuteTimerExpiry { live with pump := { live.pump with
      state := .running, runMinutes := 59, minuteTimer := some 1000 } }).loader.write = .enable := by decide +kernel

/-- F = 41 at the gap's end makes a ROUTINE claim of the next tag (6.2, 6.3). -/
theorem test_gap_end_claims :
    let s := { live with
      fouling := { live.fouling with index := 41, stale := false }, screen := { live.screen with tag := 4, gapTimer := some 1000 } }
    (after .gapTimerExpiry s).screen.wash = .claiming ∧ (after .gapTimerExpiry s).screen.tag = 5 ∧
    (after .gapTimerExpiry s).link.inHand = some ⟨.claim 5 .routine 600, 1, []⟩ := by decide +kernel

/-- The own CLAIM read back behind another in a grant range of one waits; alone it washes (6.3). -/
theorem test_claim_is_read_back :
    let s (l : List Claim) := { live with
      claims := ⟨l, some 1000⟩, screen := { live.screen with wash := .claiming, tag := 5 },
      link := { live.link with tx := .send, inHand := some ⟨.claim 5 .routine 600, 1, []⟩ } }
    (after .transmitCompletion (s [⟨1, 0, .routine, 600, 0⟩])).screen.wash = .waiting ∧
    (after .transmitCompletion (s [])).screen.wash = .washing := by decide +kernel

/-- A foreign CLAIM of a PRESENT bay is listed; its RELEASE of the same tag takes it away (5.3, 5.4). -/
theorem test_claim_and_release :
    let s := { hearing with peers := hearing.peers.set 4 ⟨.present, 2, Report.reset⟩ }
    let t := after (.claimFrame claimOf5) s
    t.claims.entries = [⟨4, 9, .routine, 600, 0⟩] ∧ t.peers[4].age = 0 ∧
    (after (.releaseFrame releaseOf5) { t with link := { t.link with receiver := .armed } }).claims.entries = [] := by
  decide +kernel

/-- A STATUS is stored, and its wash state repairs the list with the own routine duration (2.3, 5.5). -/
theorem test_status_repairs :
    let t := after (.statusFrame (statusOf5 { calm with wash := .washing, tag := 9, runHours := 1250 })) hearing
    t.peers[4].report.runHours = 1250 ∧ t.claims.entries = [⟨4, 9, .routine, 600, 0⟩] := by decide +kernel

/-- A STATUS of the own bay number mutes the transmitter (10.7). -/
theorem test_bay_conflict :
    let t := after (.statusFrame (frame 0x11#8 3#8 (encodeReport calm))) hearing
    t.conds.bayConflict = true ∧ t.link.tx = .mute ∧ alarmState t .bayConflict = .unack := by decide +kernel

/-- A RELEASE of tag 9 from bay 3, character by character (11.8); the CRC worked out apart from the model. -/
theorem test_own_frame :
    let s := { live with link := { live.link with tx := .defer, inHand := some ⟨.release 9, 1, []⟩, accessTimer := some 9000 } }
    (after .attemptBegin s).link.inHand =
      some ⟨.release 9, 1, [0x5A#8, 0x33#8, 0x03#8, 0x01#8, 0x09#8, 0xC8#8, 0xBD#8]⟩ := by decide +kernel

/-! ### Witnesses: the hypotheses of the obligations, met together -/

theorem at_work : ctx? live = some own := by decide +kernel

/-- What holds of both orders of a free choice holds of the choice. -/
theorem eitherOrder_ind {P : State → Prop} {f g : State → State} {s : State} (h1 : P (g (f { s with choices := s.choices + 1 })))
    (h2 : P (f (g { s with choices := s.choices + 1 }))) : P (eitherOrder f g s) := by
  unfold eitherOrder
  dsimp only
  split
  · exact h1
  · exact h2

theorem witness_EmptyQueueTicksTheClock :
    live.pending = [] ∧ live.inReset = false ∧ State.reset.pending = [] ∧ State.reset.inReset = true := by decide +kernel

/-- A reset holds and its end waits. -/
def resetHeld : State := { State.reset with pending := [.resetEnd 0] }

/-- Before LISTENING entry every output but ALARM is off by the laws: they are met there. -/
theorem laws_before_listening :
    (ScreenLaw resetHeld ∧ PumpLaw resetHeld ∧ LinkLaw resetHeld) ∧ ScreenLaw loading ∧ PumpLaw loading ∧ LinkLaw loading := by
  refine ⟨⟨⟨fun _ => rfl, ?_, ?_, ?_, ?_, ?_, ?_, fun _ => rfl⟩, ⟨fun _ => rfl, ?_, ?_, ?_, ?_, ?_, ?_, ?_, fun _ => ⟨rfl, rfl⟩⟩,
      ⟨fun _ => rfl, ?_, ?_, fun _ k => (nomatch k), ?_, ?_, ?_, ?_, fun _ => ⟨rfl, rfl⟩⟩⟩,
    ⟨fun _ => rfl, ?_, ?_, ?_, ?_, ?_, ?_, fun _ => rfl⟩, ⟨fun _ => rfl, ?_, ?_, ?_, ?_, ?_, ?_, ?_, fun _ => ⟨rfl, rfl⟩⟩,
    ⟨fun _ => rfl, ?_, ?_, fun _ k => (nomatch k), ?_, ?_, ?_, ?_, fun _ => ⟨rfl, rfl⟩⟩⟩
  all_goals decide +kernel

theorem witness_ResetEndReadsTheStraps :
    resetHeld.inReset = true ∧ (ScreenLaw resetHeld ∧ PumpLaw resetHeld ∧ LinkLaw resetHeld) ∧
    (1#4).toNat = bayNumber 0 ∧ (12#4).toNat = bayNumber 11 ∧ (0#4).toNat = 0 ∧ 13 ≤ (13#4).toNat :=
  ⟨rfl, laws_before_listening.1, by decide +kernel⟩

/-- The image is accepted by every part of the test; one byte changed fails the CRC, the padding, a range at either end, the hole of
max_wash_interval, or a constraint across two fields. -/
theorem witness_ConfigurationImageLoadsOrHalts :
    (loading.inReset = false ∧ loading.loader.phase = .loading ∧ loading.loader.spi = some (.read 0 100) ∧ image.length = 100) ∧
    (ScreenLaw loading ∧ PumpLaw loading ∧ LinkLaw loading) ∧
    ((crc (image.take 98)).toNat = wordAt image 98 ∧ (∀ n, 91 ≤ n → n ≤ 97 → byteAt image n = 0) ∧
      (∀ row ∈ imageTable, row.lo ≤ row.value image ∧ row.value image ≤ row.hi) ∧
      (wordAt image 37 = 0 ∨ 10 ≤ wordAt image 37) ∧ crossFields (imageFields image)) ∧
    ((image.set 99 0#8).length = 100 ∧ (crc ((image.set 99 0#8).take 98)).toNat ≠ wordAt (image.set 99 0#8) 98) ∧
    (byteAt (image.set 91 1#8) 91 ≠ 0 ∧ byteAt (image.set 97 1#8) 97 ≠ 0) ∧
    (∃ row ∈ imageTable, row.value (image.set 1 1#8) < row.lo) ∧ (∃ row ∈ imageTable, row.hi < row.value (image.set 1 17#8)) ∧
    (∃ row ∈ imageTable, row.value (image.set 7 0xD8#8) < row.lo) ∧ (∃ row ∈ imageTable, row.hi < row.value (image.set 88 2#8)) ∧
    (wordAt (image.set 38 1#8) 37 = 1 ∧ wordAt (image.set 38 9#8) 37 = 9) ∧ ¬crossFields (imageFields (image.set 31 200#8)) := by
  have h : (image.set 99 0#8).take 98 = image.take 98 := by decide +kernel
  refine ⟨by decide +kernel, laws_before_listening.2, ⟨?_, ?_, by decide +kernel, by decide +kernel, ?_⟩, ⟨by decide +kernel, ?_⟩,
    by decide +kernel, by decide +kernel, by decide +kernel, by decide +kernel, by decide +kernel, by decide +kernel, ?_⟩
  · rw [test_image_crc]; decide +kernel
  · intro n h1 h2
    have h3 : ∀ m : Fin 7, byteAt image (91 + m) = 0 := by decide +kernel
    have h4 := h3 ⟨n - 91, by omega⟩
    rwa [show 91 + (n - 91) = n by omega] at h4
  · rw [test_image_fields, crossFields]; decide +kernel
  · rw [h, test_image_crc]; decide +kernel
  · rw [crossFields]; decide +kernel

/-- The image accepted, the READ of the record under way. -/
def loaded (lines : Lines) : State :=
  { loading with lines := lines, loader := { loading.loader with cfg := some settings, spi := some (.read 128 5) } }

theorem witness_DutyRecordLeadsToListening :
    let s := loaded { Lines.reset with trip := true }
    s.inReset = false ∧ s.loader.phase = .loading ∧ s.loader.spi = some (.read 128 5) ∧ s.loader.bay = some 2 ∧
    s.loader.cfg = some settings ∧ record71400.length = 5 ∧ s.link.tx = .mute ∧ s.link.inHand = none ∧ s.link.queue = [] ∧
    (after (.dutyRecordReadDone record71400) s).pump.state = .tripped ∧ alarmEnabled settings 9 = true ∧
    alarmState s .pumpTrip = .normal := by decide +kernel

theorem witness_CodesConvertToLevels :
    (760 ≤ 760 ∧ 760 ≤ 799) ∧ (4001 ≤ 4040 ∧ 4040 ≤ 4040) ∧ (800 ≤ 4000 ∧ 4000 ≤ 4000) ∧
    loopInRange ⟨-10000, 1000⟩ = true ∧ loopInRange ⟨10000, 20000⟩ = true := by decide +kernel

theorem witness_SamplesJudgeTheSensor :
    (LoopRecord.reset.goodRun ≤ 3 ∧ LoopRecord.reset.faultRun ≤ 3 ∧ LoopRecord.reset.faultRun < 2 ∧
      LoopRecord.reset.startMark = true ∧ 759 < 760 ∧ 4040 < 4041 ∧ 760 ≤ 760 ∧ 760 ≤ 4040 ∧ 4040 ≤ 4040) ∧
    (let r : LoopRecord := ⟨.good, false, 3, 2, 0, 0⟩
     r.goodRun ≤ 3 ∧ r.faultRun ≤ 3 ∧ 2 ≤ r.faultRun ∧ r.startMark = false ∧ r.state = .good) ∧
    (let r : LoopRecord := ⟨.over, false, 1, 0, 0, 0⟩
     r.goodRun ≤ 3 ∧ r.faultRun ≤ 3 ∧ r.startMark = false ∧ r.state ≠ .good ∧ r.goodRun < 2) ∧
    (let r : LoopRecord := ⟨.under, false, 2, 0, 0, 0⟩
     r.goodRun ≤ 3 ∧ r.faultRun ≤ 3 ∧ r.startMark = false ∧ r.state ≠ .good ∧ 2 ≤ r.goodRun) := by decide +kernel

theorem witness_FilterIsBoundedAndSettles :
    (let r : LoopRecord := ⟨.good, false, 3, 0, 38401, 1200⟩
     5 ≤ 5 ∧ r.level = Int.fdiv r.acc (2 ^ 5) ∧ -10000 * 2 ^ 5 ≤ r.acc ∧ r.acc ≤ 30000 * 2 ^ 5 ∧ r.level ≠ 30000 ∧ r.level = 1200 ∧
     (0 : Int) ≤ 1250 ∧ (1250 : Int) ≤ 1250 ∧ 0 * 2 ^ 5 ≤ r.acc ∧ r.acc ≤ 1250 * 2 ^ 5) ∧
    (let r : LoopRecord := ⟨.good, false, 3, 0, -1250, -1250⟩
     r.level = Int.fdiv r.acc (2 ^ 0) ∧ r.acc = -1250 * 2 ^ 0) := by decide +kernel

/-- The base of every statement about a timer of a station at work, for the timers that always run there. -/
theorem witness_periodic_timers :
    ctx? live = some own ∧ live.front.sampleTimer = some 1000#32 ∧ live.fouling.trendTimer = some 1000#32 ∧
    live.tide.timer = some 1000#32 ∧ live.claims.rangeTimer = some 1000#32 ∧ live.duty.timer = some 1000#32 ∧
    live.ageingTimer = some 1000#32 ∧ live.link.statusTimer = some 1000#32 ∧ reached live.clock 1000#32 = true := by decide +kernel

theorem witness_SampleTakesThePair :
    ctx? live = some own ∧ live.front.sampleTimer = some 1000#32 ∧ reached live.clock 1000#32 = true := by decide +kernel

/-- F of 39, 40 and 80 by the pair: no trigger, the ROUTINE one and the URGENT one; the blocks of each are met. -/
theorem witness_SampleTakesThePair_claims :
    (∀ p ∈ [((2381#12, 39, .idle) : BitVec 12 × Nat × WashState), (2380#12, 40, .claiming), (2284#12, 80, .claiming)],
      let t := after (.sampleTimerExpiry 2000 p.1) live
      t.fouling.index = p.2.1 ∧ t.fouling.stale = false ∧ t.screen.wash = p.2.2 ∧ live.screen.intervalDue = false) ∧
    (live.screen.wash = .idle ∧ live.loader.phase = .operating ∧ live.conds.screenStall = false ∧
      alarmState live .screenStall = .normal ∧ live.screen.retryTimer = none ∧ live.conds.bayConflict = false ∧
      live.ladder.stage ≠ .isolated ∧ live.screen.gapTimer = none ∧ live.link.tx ≠ .mute) ∧
    (let s := { live with screen := { live.screen with gapTimer := some 9000 } }
     ctx? s = some own ∧ (after (.sampleTimerExpiry 2000 2380) s).screen.wash = .idle ∧
     (after (.sampleTimerExpiry 2000 2284) s).screen.cls = .urgent) := by decide +kernel

/-- The state in which the pair is delivered. -/
def paired (o i : Nat) (s : State) : State :=
  let t := sampledLoops own o i { s with front := { s.front with sampleTimer := rearmed 1000 100 } }
  let u := setCond own .innerSensor (t.front.inner.state ≠ .good) t
  checkPending own (setCond own .outerSensor (u.front.outer.state ≠ .good || u.tide.suspect) u)

/-- `live` with the pump in a state, its guard due where that is START_PENDING. -/
def withPump (p : PumpState) : State :=
  { live with pump := { live.pump with state := p, guardTimer := if p = .startPending then some 1000 else none } }

theorem sample_eq (o i : BitVec 12) (p : PumpState) :
    after (.sampleTimerExpiry o i) (withPump p) = deliverPair own (paired o.toNat i.toNat (withPump p)) := by
  have h : ctx? (withPump p) = some own := by cases p <;> decide +kernel
  exact whenLive_due (T := fun s => s.front.sampleTimer) h rfl due fun x t s =>
    sampleStep x o.toNat i.toNat { s with front := { s.front with sampleTimer := rearmed t 100 } }

/-- Both orders of the hand-overs of a pair at which SUCTION LOW rises. -/
theorem suction_ind {P : State → Prop} {p : PumpState} {o i : BitVec 12}
    (h : suctionAfterPair settings (paired o.toNat i.toNat (withPump p)).conds.suctionLow
      (paired o.toNat i.toNat (withPump p)).front.inner = true)
    (h0 : (paired o.toNat i.toNat (withPump p)).conds.suctionLow = false)
    (h1 : P (suctionChanged own true (foulingUpdate own
      { paired o.toNat i.toNat (withPump p) with choices := (paired o.toNat i.toNat (withPump p)).choices + 1 })))
    (h2 : P (foulingUpdate own (suctionChanged own true
      { paired o.toNat i.toNat (withPump p) with choices := (paired o.toNat i.toNat (withPump p)).choices + 1 }))) :
    P (after (.sampleTimerExpiry o i) (withPump p)) := by
  rw [sample_eq, deliverPair, show own.cfg = settings from rfl, h, h0]
  exact eitherOrder_ind h1 h2

/-- Both orders of the hand-overs of a pair at which SCREEN BLOCKED rises. -/
theorem blocked_ind {P : State → Prop} {p : PumpState} {o i : BitVec 12}
    (h : suctionAfterPair settings (paired o.toNat i.toNat (withPump p)).conds.suctionLow
      (paired o.toNat i.toNat (withPump p)).front.inner = (paired o.toNat i.toNat (withPump p)).conds.suctionLow)
    (h0 : foulingAfterPair settings (paired o.toNat i.toNat (withPump p)) = (100, false))
    (h3 : (paired o.toNat i.toNat (withPump p)).conds.screenBlocked = false)
    (h1 : P (blockedChanged own true (triggerCheck own .foulingUpdate
      { paired o.toNat i.toNat (withPump p) with
        choices := (paired o.toNat i.toNat (withPump p)).choices + 1,
        fouling := { (paired o.toNat i.toNat (withPump p)).fouling with index := 100, stale := false } })))
    (h2 : P (triggerCheck own .foulingUpdate (blockedChanged own true
      { paired o.toNat i.toNat (withPump p) with
        choices := (paired o.toNat i.toNat (withPump p)).choices + 1,
        fouling := { (paired o.toNat i.toNat (withPump p)).fouling with index := 100, stale := false } }))) :
    P (after (.sampleTimerExpiry o i) (withPump p)) := by
  rw [sample_eq, deliverPair, show own.cfg = settings from rfl, h, if_pos rfl, foulingUpdate, show own.cfg = settings from rfl, h0]
  dsimp only
  rw [h3, show blockedAfter settings false 100 false = true from rfl]
  exact eitherOrder_ind h1 h2

/-- A pair of 1250 mm and -1250 mm blocks the screen, in RUNNING and in STARTING. -/
theorem witness_PairUpdatesTheFoulingIndex (p : PumpState) :
    ∃ s t, ctx? s = some own ∧ s.front.sampleTimer = some 1000#32 ∧ reached s.clock 1000#32 = true ∧
      exec (.sampleTimerExpiry 2000 1500) s = .next t ∧ s.conds.screenBlocked = false ∧ s.pump.state = p ∧
      t.conds.suctionLow = s.conds.suctionLow ∧ t.conds.screenBlocked = true := by
  refine ⟨withPump p, _, by cases p <;> decide +kernel, rfl, due, exec_after _ _, rfl, rfl, ?_⟩
  cases p <;> exact blocked_ind (P := fun t => t.conds.suctionLow = false ∧ t.conds.screenBlocked = true)
    (by decide +kernel) (by decide +kernel) (by decide +kernel) (by decide +kernel) (by decide +kernel)

/-- A pending start met by a failed inner sensor, by SCREEN BLOCKED, and by neither. -/
theorem witness_PairUpdatesTheFoulingIndex_pending :
    (let s := withPump .startPending
     ctx? s = some own ∧ s.pump.state = .startPending ∧ s.loader.phase = .operating ∧ s.conds.bayConflict = false ∧
     s.conds.screenBlocked = false ∧ startsInLastHour s < settings.startLimit ∧ s.pump.minStopTimer = none ∧
     s.conds.suctionLow = false) ∧
    (let t := after (.sampleTimerExpiry 2000 0) (withPump .startPending)
     t.front.inner.state ≠ .good ∧ t.pump.cause = .notEligible ∧ t.conds.suctionLow = false) ∧
    (let t := after (.sampleTimerExpiry 2000 2381) (withPump .startPending)
     t.front.inner.state = .good ∧ t.conds.screenBlocked = false ∧ t.conds.suctionLow = false ∧ t.pump.state = .startPending) ∧
    (let t := after (.sampleTimerExpiry 2000 1500) (withPump .startPending)
     t.front.inner.state = .good ∧ t.conds.screenBlocked = true ∧ t.conds.suctionLow = false ∧ t.pump.cause = .notEligible) := by
  refine ⟨by decide +kernel, by decide +kernel, by decide +kernel, ?_⟩
  exact blocked_ind (P := fun t => t.front.inner.state = .good ∧ t.conds.screenBlocked = true ∧ t.conds.suctionLow = false ∧
    t.pump.cause = .notEligible) (by decide +kernel) (by decide +kernel) (by decide +kernel) (by decide +kernel) (by decide +kernel)

/-- A pending start withdrawn with SUCTION. -/
theorem witness_SuctionLowStopsThePump_pending :
    let t := after (.sampleTimerExpiry 800 1100) (withPump .startPending)
    t.conds.suctionLow = true ∧ t.conds.screenBlocked = false ∧ t.pump.cause = .suction :=
  suction_ind (P := fun t => t.conds.suctionLow = true ∧ t.conds.screenBlocked = false ∧ t.pump.cause = .suction)
    (by decide +kernel) (by decide +kernel) (by decide +kernel) (by decide +kernel)

theorem witness_SuctionLowStopsThePump (p : PumpState) :
    ∃ s t, ctx? s = some own ∧ s.front.sampleTimer = some 1000#32 ∧ reached s.clock 1000#32 = true ∧
      exec (.sampleTimerExpiry 800 1100) s = .next t ∧ s.conds.suctionLow = false ∧ s.pump.state = p ∧
      t.conds.suctionLow = true := by
  refine ⟨withPump p, _, by cases p <;> decide +kernel, rfl, due, exec_after _ _, rfl, rfl, ?_⟩
  cases p <;> exact suction_ind (P := fun t => t.conds.suctionLow = true) (by decide +kernel) (by decide +kernel)
    (by decide +kernel) (by decide +kernel)

/-- The pair GOOD at the boundaries of the table of R57: D = 60 = Href, D - Href = 1, 599 and 600; and SUSPECT with a valid consensus. -/
def headed (outer : Int) (suspect : Bool) : State :=
  { live with
    front := { live.front with outer := ⟨.good, false, 3, 0, 4 * outer, outer⟩, inner := ⟨.good, false, 3, 0, 0, 0⟩ },
    tide := { live.tide with suspect := suspect, valid := true, level := outer } }

theorem witness_FoulingIndexOfTheHeadLoss :
    let ready (s : State) : Prop := s.front.outer.state = .good ∧ s.front.inner.state = .good ∧
      (s.tide.suspect = true → s.tide.valid = true) ∧ s.fouling.settleTimer = none ∧
      -10000 ≤ s.front.outer.level ∧ s.front.outer.level ≤ 30000 ∧ -10000 ≤ s.front.inner.level ∧ s.front.inner.level ≤ 30000
    100 ≤ settings.headBlocked ∧ settings.headBlocked ≤ 3000 ∧ ready (headed 60 false) ∧ ready (headed 61 true) ∧
    ready (headed 659 false) ∧ ready (headed 660 false) ∧ ready (headed (-1) false) ∧ (headed (-1) false).tide.suspect = false ∧
    (60 : Int) ≤ settings.headStopped ∧ (settings.headStopped : Int) < 61 ∧ 659 - (settings.headStopped : Int) < settings.headBlocked ∧
    (settings.headBlocked : Int) ≤ 660 - settings.headStopped := by decide +kernel

/-- A PRESENT bay 5 whose F has risen from 20 to f since the snapshot. -/
def swarming (f : Nat) (swarm : Bool) : State :=
  { live with
    peers := live.peers.set 4 ⟨.present, 0, { Report.reset with fouling := f }⟩,
    fouling := { live.fouling with swarm := swarm, lanes := live.fouling.lanes.set 4 ⟨20, false, true, false⟩ } }

theorem witness_TrendExpiryJudgesTheSwarm :
    (ctx? (swarming 30 false) = some own ∧ (swarming 30 false).fouling.trendTimer = some 1000#32 ∧
      reached (swarming 30 false).clock 1000#32 = true ∧ (after .trendTimerExpiry (swarming 30 false)).fouling.swarm = true ∧
      (swarming 30 false).fouling.swarm = false ∧ (swarming 30 false).screen.wash = .idle ∧
      (swarming 30 false).loader.phase = .operating ∧ claimsBlocked (swarming 30 false) = false ∧
      routineBlocked (swarming 30 false) = false ∧ (swarming 30 false).link.tx ≠ .mute ∧
      settings.swarmUrgentSum ≤ (after .trendTimerExpiry (swarming 30 false)).fouling.intensity) ∧
    (ctx? (swarming 24 true) = some own ∧ (after .trendTimerExpiry (swarming 24 true)).fouling.swarm = false ∧
      (swarming 24 true).fouling.swarm = true) ∧
    (ctx? (swarming 24 false) = some own ∧
      (after .trendTimerExpiry (swarming 24 false)).fouling.swarm = (swarming 24 false).fouling.swarm) := by decide +kernel

theorem witness_MedianIsTheMiddleReading :
    [1231, 1250, 1262].Perm [1262, 1250, (1231 : Int)] ∧ [1231, 1250, (1262 : Int)].Pairwise (· ≤ ·) ∧
    [1262, 1250, (1231 : Int)].length % 2 = 1 ∧ [1231, (1262 : Int)].Perm [1262, 1231] ∧ [1231, (1262 : Int)].Pairwise (· ≤ ·) ∧
    [1262, (1231 : Int)].length % 2 = 0 ∧ [1231, (1262 : Int)][2 / 2 - 1]? = some 1231 ∧ [1231, (1262 : Int)][2 / 2]? = some 1262 ∧
    [1262, (1231 : Int)] ≠ [] ∧ 2 ≤ [1262, (1231 : Int)].length ∧ median [2100, 1262, 1231] = some 1262 ∧
    readings own (headed 60 false) = [60] ∧ readings own (headed 60 false) ≠ [] ∧ -10000 ≤ (60 : Int) ∧ (60 : Int) ≤ 30000 := by
  decide +kernel

/-- The own outer level 0 and two peers at a level, with the runs of the suspect judgement. -/
def judged (peers : Int) (dis agr : Nat) (suspect : Bool) : State :=
  { live with
    front := { live.front with outer := ⟨.good, false, 3, 0, 0, 0⟩ },
    peers := (live.peers.set 4 ⟨.present, 0, { Report.reset with outerLevel := peers }⟩).set 5
      ⟨.present, 0, { Report.reset with outerLevel := peers }⟩,
    tide := { live.tide with disRun := dis, agrRun := agr, suspect := suspect } }

theorem witness_TideEvaluationFormsTheConsensus :
    (ctx? live = some own ∧ live.tide.timer = some 1000#32 ∧ live.front.outer.state ≠ .good ∧ readings own live = []) ∧
    (∀ p ∈ [(301 : Int), 300], ∀ n ∈ [0, 1], ∀ b ∈ [true, false],
      ctx? (judged p n n b) = some own ∧ (judged p n n b).tide.timer = some 1000#32 ∧ reached (judged p n n b).clock 1000#32 = true ∧
      (judged p n n b).front.outer.state = .good ∧ 2 ≤ (peerReadings own (judged p n n b)).length ∧
      median (peerReadings own (judged p n n b)) = some p ∧ (judged p n n b).link.tx ≠ .mute) ∧
    (settings.suspectTolerance < ((0 : Int) - 301).natAbs ∧ ((0 : Int) - 300).natAbs ≤ settings.suspectTolerance ∧
      0 + 1 < settings.suspectPersistence ∧ settings.suspectPersistence ≤ 1 + 1) ∧
    (after .tideTimerExpiry (judged 301 1 0 false)).tide.suspect ≠ (judged 301 1 0 false).tide.suspect ∧
    (after .tideTimerExpiry (judged 301 0 0 false)).tide.suspect = (judged 301 0 0 false).tide.suspect := by decide +kernel

/-- Four values in the ring and a consensus of 0 to come. -/
def ringed (fill : Nat) : State :=
  { judged 0 0 0 false with tide := { (judged 0 0 0 false).tide with fill := fill, pointer := 4 } }

theorem witness_TideConditionsFollowTheConsensus :
    (ctx? (ringed 4) = some own ∧ (ringed 4).tide.timer = some 1000#32 ∧ reached (ringed 4).clock 1000#32 = true ∧
      (after .tideTimerExpiry (ringed 4)).tide.valid = true ∧
      settings.rateWindow < (after .tideTimerExpiry (ringed 4)).tide.fill) ∧
    ((after .tideTimerExpiry (ringed 3)).tide.valid = true ∧ ctx? (ringed 3) = some own ∧
      (after .tideTimerExpiry (ringed 3)).tide.fill ≤ settings.rateWindow) ∧
    (ctx? live = some own ∧ live.tide.timer = some 1000#32 ∧ (after .tideTimerExpiry live).tide.valid = false) := by decide +kernel

/-! #### Laws of single states -/

theorem resetLoads_of {s : State} (h : s.inReset = false) : ResetLoads s := fun k => by simp [h] at k

theorem not_atRest_of {s : State} (h : s.loader.phase = .operating) : ¬atRest s := by simp [atRest, h]

/-- What holds of the own context holds of every context of the state. -/
theorem of_own {s : State} {P : Ctx → Prop} (h : ctx? s = some own) (hp : P own) : ∀ x, ctx? s = some x → P x := by
  intro x hx
  rw [h] at hx
  cases hx
  exact hp

/-- A station at work with a list of claims. -/
def listing (l : List Claim) : State :=
  { hearing with claims := ⟨l, some 1000⟩, peers := hearing.peers.set 4 ⟨.present, 2, Report.reset⟩ }

theorem claimLaw_of {l : List Claim} (h1 : (l.map Claim.bay).Nodup) (h2 : urgentFirst l)
    (h3 : ∀ e ∈ l, e.bay ≠ 2 → (listing l).peers[e.bay].presence = .present) (h4 : l = regraded own l) : ClaimLaw (listing l) :=
  { loads := resetLoads_of rfl
    single := h1
    ordered := h2
    present := of_own rfl h3
    timed := of_own rfl h4
    rest := fun h => absurd h (not_atRest_of rfl) }

/-- Bay 5 in the grant range of one, the own claim behind it. -/
def bayFiveFirst (inRange : Nat) : List Claim := [⟨4, 9, .routine, 600, inRange⟩, ⟨2, 5, .routine, 600, 0⟩]

theorem claimLaw_bayFiveFirst (n : Nat) : ClaimLaw (listing (bayFiveFirst n)) :=
  claimLaw_of (by simp [bayFiveFirst]) (by simp [urgentFirst, bayFiveFirst]) (by simp [bayFiveFirst, listing])
    (by simp [bayFiveFirst, regraded, inGrantRange, own, settings])

theorem claimLaw_empty : ClaimLaw (listing []) :=
  claimLaw_of (by decide) (by simp [urgentFirst]) (by simp) (by simp [regraded])

/-- The own wash in a state, with a count of completed cycles. -/
def inWash (w : WashState) (completed : Nat) (s : State) : State :=
  { s with screen := { s.screen with wash := w, completed := completed } }

theorem claimLaw_inWash {s : State} (h : ClaimLaw s) (w : WashState) (n : Nat) : ClaimLaw (inWash w n s) :=
  ⟨h.loads, h.single, h.ordered, h.present, h.timed, h.rest⟩

theorem witness_RangeExpiryCountsAndExpires :
    (∀ n w k, ClaimLaw (inWash w k (listing (bayFiveFirst n)))) ∧
    (let s := listing (bayFiveFirst 649)
     ctx? s = some own ∧ s.claims.rangeTimer = some 1000#32 ∧ reached s.clock 1000#32 = true ∧
     standingIn own (after .rangeTimerExpiry s).claims.entries = standingIn own s.claims.entries) :=
  ⟨fun n w k => claimLaw_inWash (claimLaw_bayFiveFirst n) w k, by decide +kernel⟩

/-- The claim of bay 5 at its limit of 600 and 50 units leaves, and an own claim that waits, or has yielded, comes into range, with two
of three cycles done or all. -/
theorem witness_RangeExpiryCountsAndExpires_resumes :
    ∀ w ∈ [WashState.waiting, .yielded], ∀ k ∈ [2, 3],
      let s := inWash w k (listing (bayFiveFirst 650))
      ctx? s = some own ∧ s.claims.rangeTimer = some 1000#32 ∧ reached s.clock 1000#32 = true ∧ s.screen.wash = w ∧
      s.screen.completed = k ∧ (washSetInForce own.cfg s).cycles = 3 ∧ s.link.tx ≠ .mute ∧
      standingIn own s.claims.entries = .beyondRange ∧ standingIn own (after .rangeTimerExpiry s).claims.entries = .inRange := by
  decide +kernel

theorem witness_ClaimFrameIsListed :
    (ClaimLaw (listing (bayFiveFirst 0)) ∧ ClaimLaw (listing [])) ∧
    (let s := listing []
     ctx? s = some own ∧ s.link.receiver ≠ .waitIdle ∧ s.link.tx ≠ .send ∧ s.peers[4].presence = .present ∧
       s.peers[6].presence ≠ .present) ∧
    (frameValid claimOf5 = true ∧ claimOf5.kind = kindClaim ∧ bayOfByte claimOf5.bay = some 4 ∧ (4 : Bay) ≠ own.bay ∧
      byteAt claimOf5.payload 0 ≤ 15 ∧ byteAt claimOf5.payload 1 = 0 ∧ 1 ≤ wordAt claimOf5.payload 2 ∧
      wordAt claimOf5.payload 2 ≤ 9000) ∧
    (let f := frame 0x22#8 5#8 [15#8, 1#8, 0x23#8, 0x28#8]
     frameValid f = true ∧ f.kind = kindClaim ∧ byteAt f.payload 0 ≤ 15 ∧ byteAt f.payload 1 = 1 ∧ wordAt f.payload 2 = 9000) ∧
    (let f := frame 0x22#8 5#8 [16#8, 0#8, 0#8, 1#8]
     frameValid f = true ∧ f.kind = kindClaim ∧ 15 < byteAt f.payload 0) ∧
    (let f := frame 0x22#8 5#8 [0#8, 2#8, 0x23#8, 0x29#8]
     frameValid f = true ∧ f.kind = kindClaim ∧ 1 < byteAt f.payload 1 ∧ 9000 < wordAt f.payload 2) ∧
    (let f := frame 0x22#8 3#8 [0#8, 0#8, 0#8, 0#8]
     frameValid f = true ∧ bayOfByte f.bay = some own.bay ∧ wordAt f.payload 2 = 0) ∧
    (let f := frame 0x22#8 7#8 [0#8, 0#8, 0#8, 1#8]
     frameValid f = true ∧ bayOfByte f.bay = some 6) := by
  exact ⟨⟨claimLaw_bayFiveFirst 0, claimLaw_empty⟩, by decide +kernel⟩

/-- A foreign URGENT claim pushes a washing one out of range. -/
theorem witness_ClaimFrameIsListed_yields :
    let s := { listing [⟨2, 5, .routine, 600, 0⟩] with screen := { live.screen with wash := .washing } }
    let t := after (.claimFrame (frame 0x22#8 5#8 [9#8, 1#8, 2#8, 0x58#8])) s
    s.screen.wash = .washing ∧ standingIn own s.claims.entries = .inRange ∧ standingIn own t.claims.entries = .beyondRange := by
  decide +kernel

theorem witness_ReleaseFrameRemovesTheClaim :
    let s := listing (bayFiveFirst 0)
    let other := frame 0x33#8 5#8 [8#8]
    ctx? s = some own ∧ s.link.receiver ≠ .waitIdle ∧ s.link.tx ≠ .send ∧ frameValid releaseOf5 = true ∧
    releaseOf5.kind = kindRelease ∧ bayOfByte releaseOf5.bay = some 4 ∧ (4 : Bay) ≠ own.bay ∧ s.peers[4].presence = .present ∧
    s.peers[6].presence ≠ .present ∧ (∃ e ∈ s.claims.entries, e.bay = 4 ∧ e.tag = byteAt releaseOf5.payload 0) ∧
    frameValid other = true ∧ (∀ e ∈ s.claims.entries, e.bay = 4 → e.tag ≠ byteAt other.payload 0) ∧
    bayOfByte (frame 0x33#8 3#8 [8#8]).bay = some own.bay ∧ frameValid (frame 0x33#8 3#8 [8#8]) = true := by decide +kernel

/-- The RELEASE of bay 5 brings an own claim that waits, or has yielded, into range. -/
theorem witness_ReleaseFrameRemovesTheClaim_resumes :
    ∀ w ∈ [WashState.waiting, .yielded], ∀ n ∈ [2, 3],
      let s := inWash w n (listing (bayFiveFirst 0))
      ctx? s = some own ∧ s.link.receiver ≠ .waitIdle ∧ s.link.tx ≠ .send ∧ s.screen.wash = w ∧ s.screen.completed = n ∧
      (washSetInForce own.cfg s).cycles = 3 ∧ standingIn own s.claims.entries = .beyondRange ∧
      standingIn own (after (.releaseFrame releaseOf5) s).claims.entries = .inRange := by decide +kernel

/-! #### The screen controller -/

/-- The gap timer due, with F and the interval due mark. -/
def gapDue (f : Nat) (interval : Bool) : State :=
  { live with
    fouling := { live.fouling with index := f, stale := false },
    screen := { live.screen with gapTimer := some 1000, intervalDue := interval } }

theorem witness_GapExpiryChecksTheTriggers :
    (∀ f ∈ [39, 40, 80], ctx? (gapDue f false) = some own ∧ (gapDue f false).screen.gapTimer = some 1000#32 ∧
      reached (gapDue f false).clock 1000#32 = true ∧ (gapDue f false).screen.wash = .idle ∧
      (gapDue f false).loader.phase = .operating ∧ (gapDue f false).conds.screenStall = false ∧
      alarmState (gapDue f false) .screenStall = .normal ∧ (gapDue f false).screen.retryTimer = none ∧
      (gapDue f false).conds.bayConflict = false ∧ (gapDue f false).conds.surge = false ∧ (gapDue f false).fouling.stale = false ∧
      (gapDue f false).ladder.stage ≠ .isolated) ∧
    settings.urgentThreshold ≤ (gapDue 80 false).fouling.index ∧ (gapDue 40 false).fouling.index < settings.urgentThreshold ∧
    settings.washThreshold ≤ (gapDue 40 false).fouling.index ∧ (gapDue 39 false).fouling.index < settings.washThreshold ∧
    (gapDue 39 false).screen.intervalDue = false ∧ (gapDue 39 true).screen.intervalDue = true ∧
    ({ gapDue 80 false with conds := { live.conds with screenStall := true } } : State).conds.screenStall = true := by decide +kernel

/-- A wash at a count of its routine set. -/
def cycling (n completed : Nat) : State :=
  { live with screen := { live.screen with
      wash := .washing, working := settings.routineSet, cycleCount := n, completed := completed, cycleTimer := some 1000 } }

theorem witness_CycleTimerRunsTheWash :
    (∀ n ∈ [18, 19, 199], ∀ k ∈ [1, 2], ctx? (cycling n k) = some own ∧ (cycling n k).screen.cycleTimer = some 1000#32 ∧
      reached (cycling n k).clock 1000#32 = true ∧ (cycling n k).screen.wash = .washing ∧ (cycling n k).screen.spray = false) ∧
    (18 + 1 ≠ settings.routineSet.sprayPoint ∧ 18 + 1 ≠ settings.routineSet.period) ∧
    (19 + 1 = settings.routineSet.sprayPoint ∧ 19 + 1 ≠ settings.routineSet.period) ∧
    (199 + 1 ≠ settings.routineSet.sprayPoint ∧ 199 + 1 = settings.routineSet.period) ∧
    (cycling 199 1).screen.completed + 1 < (washSetInForce settings (cycling 199 1)).cycles ∧
    (washSetInForce settings (cycling 199 2)).cycles ≤ (cycling 199 2).screen.completed + 1 := by decide +kernel

/-- A number of edges counted, with the drive. -/
def edged (n : Nat) (d : Drive) : State := { live with screen := { live.screen with prescale := n, drive := d } }

theorem witness_ShaftEdgesMeasureTheScreen :
    (∀ n ∈ [2, 3], ∀ d ∈ [Drive.off, .slow, .fast], ctx? (edged n d) = some own ∧ (edged n d).screen.drive = d) ∧
    (edged 2 .off).screen.prescale + 1 < 2 ^ settings.shaftPrescale ∧
    2 ^ settings.shaftPrescale ≤ (edged 3 .off).screen.prescale + 1 := by decide +kernel

/-- The stall window due in a wash state, with a queue. -/
def stalling (w : WashState) (queue : List TxFrame) : State :=
  { live with
    screen := { live.screen with wash := w, stallTimer := some 1000 },
    link := { live.link with tx := .defer, inHand := some ⟨.status, 1, []⟩, queue := queue, accessTimer := some 2000 } }

theorem witness_StallStopsTheScreen :
    (∀ w ∈ [WashState.idle, .claiming, .waiting, .washing, .yielded, .releasing], ctx? (stalling w []) = some own ∧
      (stalling w []).screen.stallTimer = some 1000#32 ∧ reached (stalling w []).clock 1000#32 = true ∧
      (stalling w []).conds.screenStall = false ∧ (stalling w []).screen.wash = w ∧ (stalling w []).link.tx ≠ .mute ∧
      alarmEnabled settings 12 = true ∧ alarmState (stalling w []) .screenStall = .normal) ∧
    (∃ k n, .claim (stalling .claiming [.claim 0 .routine 600]).screen.tag k n
      ∈ (stalling .claiming [.claim 0 .routine 600]).link.queue) ∧
    ¬∃ k n, .claim (stalling .claiming []).screen.tag k n ∈ (stalling .claiming []).link.queue := by
  refine ⟨by decide +kernel, ⟨.routine, 600, by decide⟩, ?_⟩
  rintro ⟨k, n, h⟩
  simp [stalling] at h

/-- HEADER with the spray on or off and the two timers due. -/
def headerAt (closed spray : Bool) (w : WashState) : State :=
  { live with
    lines := { live.lines with header := closed },
    screen := { live.screen with wash := w, spray := spray, headerTimer := some 1000, retryTimer := some 1000 } }

theorem witness_HeaderSupervisionAbortsAndRetries :
    (ctx? { State.reset with lines := { Lines.reset with header := true } } = none ∧ ctx? State.reset = none ∧
      State.reset.lines.header = false) ∧
    (∀ c ∈ [true, false], ∀ w ∈ [WashState.idle, .washing, .releasing], ctx? (headerAt c c w) = some own ∧
      (headerAt c c w).lines.header = c ∧ (headerAt c c w).screen.spray = c ∧ (headerAt c c w).screen.wash = w ∧
      (headerAt c c w).screen.headerTimer = some 1000#32 ∧ (headerAt c c w).screen.retryTimer = some 1000#32 ∧
      reached (headerAt c c w).clock 1000#32 = true ∧ (headerAt c c w).conds.washWaterFail = false ∧
      alarmEnabled settings 13 = true ∧ alarmState (headerAt c c w) .washWaterFail = .normal ∧ (headerAt c c w).link.tx ≠ .mute) ∧
    (headerAt true false .idle).lines.header = true ∧ (headerAt true false .idle).screen.spray = false ∧
    (let t := after .headerTimerExpiry (headerAt false true .washing)
     ctx? t = some own ∧ t.conds.washWaterFail = true ∧ alarmState t .washWaterFail = .unack ∧
     t.screen.retryTimer = some 601000#32) := by decide +kernel

/-! #### The duty ranker -/

/-- A station that may rank: the inner sensor GOOD. -/
def ranked (p : PumpState) (demand : Nat) : State :=
  { live with
    front := { live.front with inner := ⟨.good, false, 3, 0, 0, 0⟩ },
    order := { live.order with heard := true, demand := demand }, tide := { live.tide with valid := true },
    pump := { live.pump with state := p } }

theorem witness_DutyEvaluationRanksTheBays :
    (ctx? live = some own ∧ live.duty.timer = some 1000#32 ∧ reached live.clock 1000#32 = true ∧
      (eligible live && (countedRunning live || startable own.cfg live)) = false) ∧
    (ctx? (ranked .stopped 2) = some own ∧ (ranked .stopped 2).duty.timer = some 1000#32 ∧
      (eligible (ranked .stopped 2) &&
        (countedRunning (ranked .stopped 2) || startable own.cfg (ranked .stopped 2))) = true) := by decide +kernel

/-- A peer, bay 5, in a pump state with a score. -/
def withPeer (p : PumpState) (score : Nat) (s : State) : State :=
  { s with peers := s.peers.set 4 ⟨.present, 0, { Report.reset with pumpState := p, score := score }⟩ }

/-- The duty timer is due in STOPPED, LINKED and OPERATING, and the tests before the one meant hold. -/
def stoppedDue (s : State) : Bool :=
  ctx? s = some own && s.duty.timer = some 1000#32 && reached s.clock 1000#32 && s.pump.state = .stopped
    && s.loader.phase = .operating && s.ladder.stage = .linked

theorem witness_DutyEvaluationHandsOneWish :
    (let s := { ranked .stopped 2 with ladder := ⟨3, .quiet⟩ }
     ctx? s = some own ∧ s.pump.state = .stopped ∧ s.duty.timer = some 1000#32 ∧ s.ladder.stage ≠ .linked) ∧
    (stoppedDue live = true ∧ eligible live = false) ∧
    (let s := { ranked .stopped 2 with pump := { live.pump with ring := (((Vector.replicate 6 none).set 0 (some 0)).set 1 (some 1)).set 2 (some 2) } }
     stoppedDue s = true ∧ eligible s = true ∧ settings.startLimit ≤ startsInLastHour s) ∧
    (let s := { ranked .stopped 2 with pump := { live.pump with minStopTimer := some 2000 } }
     stoppedDue s = true ∧ eligible s = true ∧ startsInLastHour s < settings.startLimit ∧ s.pump.minStopTimer.isSome = true) ∧
    (let s := { ranked .stopped 2 with conds := { live.conds with suctionLow := true } }
     stoppedDue s = true ∧ eligible s = true ∧ s.pump.minStopTimer = none ∧ s.conds.suctionLow = true) ∧
    (let s := ranked .stopped 0
     stoppedDue s = true ∧ eligible s = true ∧ s.conds.suctionLow = false ∧ (after .dutyTimerExpiry s).duty.nTarget = 0 ∧
     (after .dutyTimerExpiry s).duty.ownRank = some 1) ∧
    (let s := ranked .stopped 2
     stoppedDue s = true ∧ eligible s = true ∧ startsInLastHour s < settings.startLimit ∧ s.pump.minStopTimer = none ∧
     s.conds.suctionLow = false ∧ s.link.tx ≠ .mute ∧ peerStarting own s = false ∧
     (after .dutyTimerExpiry s).duty.ownRank = some 1 ∧ 1 ≤ (after .dutyTimerExpiry s).duty.nTarget ∧
     (after .dutyTimerExpiry s).duty.running < (after .dutyTimerExpiry s).duty.nTarget ∧
     (after .dutyTimerExpiry s).pump.state = .startPending) ∧
    (let s := withPeer .starting 0 (ranked .stopped 2)
     stoppedDue s = true ∧ peerStarting own s = true ∧ (after .dutyTimerExpiry s).pump.cause = .stagger) ∧
    (let s := withPeer .startPending 0 { ranked .stopped 2 with fouling := { live.fouling with index := 10 } }
     stoppedDue s = true ∧ (after .dutyTimerExpiry s).pump.cause = .betterStarter) := by decide +kernel

theorem witness_DutyEvaluationHandsOneWish_running :
    (let s := ranked .running 0
     ctx? s = some own ∧ s.duty.timer = some 1000#32 ∧ s.pump.state = .running ∧ s.loader.phase = .operating ∧
     s.ladder.stage = .linked ∧ s.pump.minRunTimer = none ∧
     (after .dutyTimerExpiry s).duty.nTarget < (after .dutyTimerExpiry s).duty.stopCount ∧
     ((after .dutyTimerExpiry s).duty.ranking.filter (runsInView own s)).getLast? = some own.bay ∧
     s.conds.bayConflict = false) ∧
    (let s := ranked .running 2
     ctx? s = some own ∧ s.pump.state = .running ∧
     ¬(after .dutyTimerExpiry s).duty.nTarget < (after .dutyTimerExpiry s).duty.stopCount) ∧
    (let s := ranked .locked 2
     ctx? s = some own ∧ s.pump.state ≠ .stopped ∧ s.pump.state ≠ .running) := by decide +kernel

/-! #### The pump controller -/

/-- Every timer of the pump due, in a pump state. -/
def pumpAt (p : PumpState) (run : Bool) (pulse : Option Pulse) : State :=
  { live with
    lines := { live.lines with run := run },
    pump := { live.pump with
      state := p, pulse := pulse, pulseTimer := some 1000, guardTimer := some 1000, feedbackTimer := some 1000,
      minRunTimer := some 1000, minStopTimer := some 1000, minuteTimer := some 1000 } }

theorem witness_GuardExpiryStartsThePump :
    (let s := pumpAt .startPending false none
     ctx? s = some own ∧ s.pump.guardTimer = some 1000#32 ∧ reached s.clock 1000#32 = true ∧ s.pump.state = .startPending ∧
     (¬∃ b r, presentPeer own s b = some r ∧ r.pumpState = .starting) ∧ s.conds.suctionLow = false ∧
     s.conds.screenBlocked = false ∧ s.lines.run = false ∧ s.link.tx ≠ .mute) ∧
    (let s := { pumpAt .startPending false none with conds := { live.conds with suctionLow := true } }
     ctx? s = some own ∧ s.conds.suctionLow = true) ∧
    (let s := withPeer .starting 0 (pumpAt .startPending false none)
     ctx? s = some own ∧ ∃ b r, presentPeer own s b = some r ∧ r.pumpState = .starting) := by
  have h : ∀ b : Bay, presentPeer own (pumpAt .startPending false none) b = none := by decide +kernel
  refine ⟨⟨by decide +kernel, rfl, by decide +kernel, rfl, ?_, rfl, rfl, rfl, by decide +kernel⟩, by decide +kernel,
    by decide +kernel, 4, _, rfl, rfl⟩
  rintro ⟨b, r, hb, -⟩
  rw [h b] at hb
  cases hb

theorem witness_FeedbackAndPulseTimersRunOut :
    (∀ p ∈ [PumpState.starting, .stopping, .stopped], ∀ run ∈ [true, false],
      ctx? (pumpAt p run (some .stop)) = some own ∧ reached (pumpAt p run (some .stop)).clock 1000#32 = true ∧
      (pumpAt p run (some .stop)).pump.state = p ∧ (pumpAt p run (some .stop)).lines.run = run ∧
      (pumpAt p run (some .stop)).pump.feedbackTimer = some 1000#32 ∧
      (pumpAt p run (some .stop)).pump.pulseTimer = some 1000#32 ∧
      (pumpAt p run (some .stop)).pump.pulse = some .stop) := by decide +kernel

/-- Starts at 0 and 12 minutes, the first due to leave. -/
def aged : State :=
  { live with
    pump := { live.pump with
      ring := ((Vector.replicate 6 none).set 0 (some 0)).set 1 (some 720), pointer := 2, ageTimer := some 1000,
      minRunTimer := some 1000, minStopTimer := some 1000, minuteTimer := some 1000, runMinutes := 59 }
    fouling := { live.fouling with settleTimer := some 1000 }
    screen := { live.screen with intervalTimer := some 1000 } }

theorem witness_SpellsEndStartsAgeAndMinutesCount :
    ctx? aged = some own ∧ reached aged.clock 1000#32 = true ∧ aged.fouling.settleTimer = some 1000#32 ∧
    aged.pump.minRunTimer = some 1000#32 ∧ aged.pump.minStopTimer = some 1000#32 ∧ aged.screen.intervalTimer = some 1000#32 ∧
    aged.pump.ageTimer = some 1000#32 ∧ (aged.pump.ring[aged.pump.pointer + (4 : Fin 6)]).isSome = true ∧
    (∀ j : Fin 6, j < 4 → aged.pump.ring[aged.pump.pointer + j] = none) ∧ (4 : Fin 6) < 5 ∧
    aged.pump.ring[aged.pump.pointer + (5 : Fin 6)] = some 720#32 ∧ aged.pump.minuteTimer = some 1000#32 ∧
    aged.pump.runMinutes < 16777215 ∧ (aged.pump.runMinutes + 1) % 60 = 0 ∧
    (let s := { aged with pump := { aged.pump with ring := (Vector.replicate 6 none).set 0 (some 0), runMinutes := 60 } }
     ctx? s = some own ∧ (∀ j : Fin 6, (4 : Fin 6) < j → s.pump.ring[s.pump.pointer + j] = none) ∧
     (s.pump.runMinutes + 1) % 60 ≠ 0) := by decide +kernel

/-- Every pump state, to be met one by one. -/
def pumpStates : List PumpState := [.stopped, .startPending, .starting, .running, .stopping, .tripped, .failed, .locked]

theorem witness_contacts :
    (∀ p ∈ pumpStates, ∀ run ∈ [true, false], ctx? (pumpAt p run none) = some own ∧ (pumpAt p run none).pump.state = p ∧
      (pumpAt p run none).lines.run = run ∧ (pumpAt p run none).lines.trip = false ∧ (pumpAt p run none).lines.localSel = false ∧
      (pumpAt p run none).conds.suctionLow = false ∧ (pumpAt p run none).conds.screenBlocked = false ∧
      (pumpAt p run none).pump.pulse ≠ some .stop ∧ (pumpAt p run (some .stop)).pump.pulse = some .stop ∧
      ctx? (pumpAt p run (some .stop)) = some own ∧ (pumpAt p run none).link.tx ≠ .mute) ∧
    (ctx? State.reset = none ∧ State.reset.lines.run = false ∧ State.reset.lines.trip = false ∧ State.reset.lines.localSel = false) ∧
    (let s := { State.reset with lines := ⟨true, true, true, true, true⟩ }
     ctx? s = none ∧ s.lines.run = true ∧ s.lines.trip = true ∧ s.lines.localSel = true) := by decide +kernel

theorem witness_RunClosureIsFeedback :
    (∀ p ∈ pumpStates, ctx? (pumpAt p false none) = some own ∧ (pumpAt p false none).lines.run = false ∧
      (pumpAt p false none).pump.state = p) ∧
    countedRunning (pumpAt .stopped false none) = false ∧ (pumpAt .starting false none).conds.suctionLow = false ∧
    (let s := { pumpAt .starting false none with conds := { live.conds with screenBlocked := true } }
     ctx? s = some own ∧ s.pump.state = .starting ∧ s.conds.screenBlocked = true) ∧
    (State.reset.lines.run = false ∧ ctx? State.reset = none) := by decide +kernel

theorem witness_RunOpeningEndsTheFeedback :
    (∀ p ∈ pumpStates, ∀ q ∈ [none, some Pulse.stop], ctx? (pumpAt p true q) = some own ∧ (pumpAt p true q).lines.run = true ∧
      (pumpAt p true q).pump.state = p ∧ (pumpAt p true q).pump.pulse = q) := by decide +kernel

/-- Counted running with its minute timer at a target, and the loader in a phase with a record mark and a write state. -/
def minuting (target : Clock) (phase : Phase) (mark : RecordMark) (write : WriteState) : State :=
  { pumpAt .running true none with
    pump := { (pumpAt .running true none).pump with minuteTimer := some target, runMinutes := 59 },
    loader := { live.loader with phase := phase, mark := mark, write := write } }

/-- The whole minute still ahead, half of it, 1 ms and none, and the loader free, at work and held by a lost record. -/
theorem witness_RunOpeningEndsTheFeedback_minutes :
    (∀ n ∈ [61000, 31000, 1001, 1000, 900],
      ∀ l ∈ [(Phase.operating, RecordMark.good, WriteState.idle), (.operating, .good, .program), (.listening, .lost, .idle)],
      let m := BitVec.ofNat 32 n
      let s := minuting m l.1 l.2.1 l.2.2
      ctx? s = some own ∧ s.lines.run = true ∧ s.pump.state ≠ .starting ∧ s.pump.minuteTimer = some m ∧
      (m - s.clock).toInt ≤ 60000 ∧ s.loader.write = l.2.2) ∧
    (let t := after .runOpens (minuting 31000 .operating .good .idle)
     t.pump.minuteAcc = 30000 ∧ t.pump.runMinutes = 59 ∧ t.loader.write = .enable ∧ t.loader.writePending = false) ∧
    (let t := after .runOpens (minuting 1000 .operating .good .idle)
     t.pump.minuteAcc = 0 ∧ t.pump.runMinutes = 60 ∧ t.loader.write = .enable ∧ t.loader.writePending = true) ∧
    (let t := after .runOpens (minuting 31000 .listening .lost .idle)
     t.loader.write = .idle ∧ t.loader.writePending = true) := by decide +kernel

theorem witness_TripContactRulesThePump :
    (∀ p ∈ pumpStates, ∀ run ∈ [true, false], ∀ trip ∈ [true, false],
      let s := { pumpAt p run none with lines := { live.lines with run := run, trip := trip } }
      ctx? s = some own ∧ s.lines.trip = trip ∧ s.lines.run = run ∧ s.pump.state = p ∧ s.link.tx ≠ .mute) := by decide +kernel

theorem witness_LocalSelectorLocksThePump :
    (∀ p ∈ pumpStates, ∀ run ∈ [true, false], ∀ trip ∈ [true, false], ∀ sel ∈ [true, false], ∀ low ∈ [true, false],
      let s := { pumpAt p run none with
        lines := { live.lines with run := run, trip := trip, localSel := sel }, conds := { live.conds with suctionLow := low } }
      ctx? s = some own ∧ s.lines.trip = trip ∧ s.lines.run = run ∧ s.lines.localSel = sel ∧ s.pump.state = p ∧
      s.conds.suctionLow = low ∧ s.conds.screenBlocked = false) := by decide +kernel

/-! #### The annunciator and the peer table -/

/-- FAILED with its condition and alarm, SCREEN STALL with its alarm ACKED, LOW returned. -/
def alarmed (run : Bool) : State :=
  { live with
    lines := { live.lines with run := run },
    pump := { live.pump with state := .failed },
    conds := { live.conds with pumpFail := true, screenStall := true },
    alarms := ((live.alarms.set 10 .unack).set 12 .acked).set 1 .returned }

theorem pumpLaw_alarmed (run : Bool) : PumpLaw (alarmed run) :=
  ⟨resetLoads_of rfl, by simp [alarmed, live], by simp [alarmed, live, State.reset, Pump.reset], by simp [alarmed, live, State.reset, Conds.reset], by simp [alarmed],
    by simp [alarmed, live, State.reset, Pump.reset], by simp [alarmed, live, State.reset, Pump.reset],
    by simp [alarmed, live, State.reset, Pump.reset], fun h => absurd h (not_atRest_of rfl)⟩

theorem witness_AcknowledgeMovesEveryEntry :
    (∀ run, PumpLaw (alarmed run)) ∧
    (∀ run ∈ [true, false], ctx? (alarmed run) = some own ∧ (alarmed run).lines.ack = false ∧ (alarmed run).lines.run = run ∧
      (alarmed run).pump.state = .failed ∧ (alarmed run).conds.suctionLow = false ∧ (alarmed run).conds.screenBlocked = false ∧
      (alarmed run).conds.screenStall = true ∧ (alarmed run).link.tx ≠ .mute) ∧
    (alarmEnabled settings Alarm.screenBlocked.index.val = false ∧ alarmEnabled settings Alarm.low.index.val = true ∧
      alarmEnabled settings Alarm.pumpFail.index.val = true) ∧
    ((alarmed false).conds.get .pumpFail = true ∧ alarmState (alarmed false) .pumpFail = .unack ∧
      (alarmed false).conds.get .dutyRecordLost = false ∧ alarmState (alarmed false) .low = .returned ∧
      (after .ackRisingEdge (alarmed false)).alarms ≠ (alarmed false).alarms) ∧
    (ctx? live = some own ∧ live.pump.state ≠ .failed ∧ live.conds.screenStall = false) ∧
    (ctx? State.reset = none ∧ State.reset.lines.ack = false) ∧
    (let s := { live with lines := { live.lines with ack := true } }
     s.lines.ack = true) := by
  exact ⟨pumpLaw_alarmed, by decide +kernel⟩

/-- A ladder count of the stage it gives, an age of bay 5, a wash that waits under an URGENT claim. -/
def ageing (count age : Nat) : State :=
  { listing [⟨2, 5, .urgent, 600, 0⟩, ⟨4, 9, .routine, 600, 0⟩] with
    ladder := ⟨count, stageOfCount settings count⟩,
    peers := live.peers.set 4 ⟨.present, age, Report.reset⟩,
    pump := { live.pump with state := .startPending, guardTimer := some 2000 },
    screen := { live.screen with cls := .urgent } }

theorem ladderLaw_ageing (n age : Nat) (h : n < settings.isolatedAfter) : LadderLaw (ageing n age) := by
  refine ⟨resetLoads_of rfl, ?_, of_own (by decide +kernel : ctx? (ageing 0 0) = some own) rfl, ?_, fun h => absurd h (not_atRest_of rfl)⟩
  · simp only [ageing, stageOfCount]
    split <;> simp [listing, hearing, live, State.reset, Conds.reset]
  · intro c hc
    cases hc
    decide +kernel

theorem witness_AgeingExpiryAgesTheViews :
    (LadderLaw (ageing 2 2) ∧ LadderLaw (ageing 5 0)) ∧
    (∀ n ∈ [2, 5], ctx? (ageing n 2) = some own ∧ (ageing n 2).ageingTimer = some 1000#32 ∧
      reached (ageing n 2).clock 1000#32 = true ∧ (ageing n 2).pump.state = .startPending ∧ (ageing n 2).link.tx ≠ .mute) ∧
    ((ageing 2 2).peers[4].presence = .present ∧ (after .ageingTimerExpiry (ageing 2 2)).peers[4].presence = .silent ∧
      (ageing 2 2).peers[5].presence = .empty ∧
      (after .ageingTimerExpiry (ageing 2 2)).ladder.stage ≠ (ageing 2 2).ladder.stage) ∧
    ((after .ageingTimerExpiry (ageing 5 0)).ladder.stage = .isolated ∧ (ageing 5 0).ladder.stage ≠ .isolated ∧
      (after .ageingTimerExpiry (ageing 5 0)).peers[4].presence = (ageing 5 0).peers[4].presence) := by
  exact ⟨⟨ladderLaw_ageing _ _ (by decide), ladderLaw_ageing _ _ (by decide)⟩, by decide +kernel⟩

/-- A ROUTINE wash in a state with a queue, one ageing expiry from ISOLATED. -/
def isolating (w : WashState) (l : List Claim) (queue : List TxFrame) : State :=
  { listing l with
    ladder := ⟨5, .quiet⟩, screen := { live.screen with wash := w, tag := 5 },
    link := { live.link with tx := .defer, inHand := some ⟨.status, 1, []⟩, queue := queue, accessTimer := some 2000 } }

theorem isolating_isolates (w : WashState) (l : List Claim) (queue : List TxFrame) :
    (after .ageingTimerExpiry (isolating w l queue)).ladder.stage = .isolated := by
  have hr : reached (isolating w l queue).clock 1000#32 = true := by
    rw [show (isolating w l queue).clock = 1000#32 from rfl, due]
  have h := whenLive_due (s := isolating w l queue) (T := fun s => s.ageingTimer) (x := own) rfl rfl hr fun x t s =>
    ageingStep x { s with ageingTimer := rearmed t (statusPeriodMs x.cfg) }
  rw [show after .ageingTimerExpiry (isolating w l queue) = _ from h, ageingStep_ladder]
  exact (by decide +kernel : stageOfCount settings 6 = .isolated)

/-- Every wash state of class ROUTINE at the change to ISOLATED, CLAIMING with its CLAIM waiting and gone. -/
theorem witness_AgeingExpiryAgesTheViews_aborts :
    (∀ w l q, LadderLaw (isolating w l q) ∧ (after .ageingTimerExpiry (isolating w l q)).ladder.stage = .isolated) ∧
    (∀ w ∈ [WashState.idle, .claiming, .waiting, .washing, .yielded, .releasing],
      ∀ q ∈ [[], [TxFrame.claim 5 .routine 600]],
      let s := isolating w [] q
      ctx? s = some own ∧ s.ageingTimer = some 1000#32 ∧ reached s.clock 1000#32 = true ∧ s.ladder.stage ≠ .isolated ∧
      s.screen.cls = .routine ∧ s.screen.wash = w ∧ s.screen.tag = 5 ∧ s.link.queue = q ∧ s.link.tx ≠ .mute ∧ s.link.tx ≠ .idle ∧
      standingIn own s.claims.entries = .none) := by
  have quiet : ∀ x, ctx? (isolating .idle [] []) = some x → Stage.quiet = stageOfCount x.cfg 5 :=
    of_own (by decide +kernel) (by decide +kernel)
  refine ⟨fun w l q => ⟨⟨resetLoads_of rfl, ⟨fun h => (nomatch h), fun h => (nomatch h)⟩, quiet, ?_,
    fun h => absurd h (not_atRest_of rfl)⟩, isolating_isolates w l q⟩, by decide +kernel⟩
  intro c hc
  cases hc
  decide +kernel

/-- LISTENING at a window count with a record mark. -/
def listening (window : Nat) (mark : RecordMark) : State :=
  { live with loader := { live.loader with phase := .listening, window := window, mark := mark } }

theorem witness_ListeningEndsInOperating :
    (∀ n ∈ [0, 1], ∀ m ∈ [RecordMark.good, .lost], ctx? (listening n m) = some own ∧
      (listening n m).ageingTimer = some 1000#32 ∧ reached (listening n m).clock 1000#32 = true ∧
      (listening n m).loader.phase = .listening ∧ (listening n m).loader.window = n ∧ (listening n m).loader.mark = m ∧
      (listening n m).link.tx ≠ .mute ∧ (listening n m).loader.write = .idle) ∧
    (ctx? live = some own ∧ live.ageingTimer = some 1000#32 ∧ live.loader.phase = .operating) ∧
    exec .ageingTimerExpiry (listening 1 .lost) = .next (after .ageingTimerExpiry (listening 1 .lost)) :=
  ⟨by decide +kernel, by decide +kernel, exec_after _ _⟩

/-- What the frame statements ask of a frame from bay 5. -/
def heardFrom5 (k : Byte) (f : Frame) : Bool := frameValid f && f.kind = k && bayOfByte f.bay = some 4

theorem witness_StatusFrameIsStored :
    ClaimLaw (listing (bayFiveFirst 0)) ∧
    (let s := listing (bayFiveFirst 0)
     ctx? s = some own ∧ s.link.receiver ≠ .waitIdle ∧ s.link.tx ≠ .send ∧ s.pump.state ≠ .startPending ∧ (4 : Bay) ≠ own.bay ∧
     (∃ e ∈ s.claims.entries, e.bay = 4 ∧ e.tag = 9) ∧ ¬∃ e ∈ s.claims.entries, e.bay = 4 ∧ e.tag = 10) ∧
    (∀ w ∈ [WashState.idle, .claiming, .waiting, .releasing],
      let r := { calm with wash := w, tag := 9 }
      heardFrom5 kindStatus (statusOf5 r) = true ∧ decodeReport (statusOf5 r).payload = some r) ∧
    (let r := { calm with restart := true, wash := .washing, tag := 10, pumpState := .starting }
     heardFrom5 kindStatus (statusOf5 r) = true ∧ decodeReport (statusOf5 r).payload = some r) ∧
    (let f := frame 0x11#8 5#8 ((encodeReport calm).set 4 101#8)
     heardFrom5 kindStatus f = true ∧ decodeReport f.payload = none) ∧
    (let s := { listing [] with pump := { live.pump with state := .startPending, guardTimer := some 2000 } }
     let r := { calm with pumpState := .startPending, score := 855 }
     ctx? s = some own ∧ s.pump.state = .startPending ∧ heardFrom5 kindStatus (statusOf5 r) = true ∧ r.score < s.duty.score) := by
  exact ⟨claimLaw_bayFiveFirst 0, by decide +kernel⟩

theorem witness_OrderFrameIsTaken :
    (let s := hearing
     ctx? s = some own ∧ s.link.receiver ≠ .waitIdle ∧ s.link.tx ≠ .send ∧ s.ladder.stage = .linked ∧
     s.order.lastApplied ≠ some 40#8 ∧ s.screen.wash = .idle ∧ s.loader.phase = .operating ∧ claimsBlocked s = false ∧
     s.screen.gapTimer = none) ∧
    (let s := { hearing with order := { live.order with lastApplied := some 40#8 } }
     ctx? s = some own ∧ s.order.lastApplied = some (order40.payload.getD 0 0#8)) ∧
    (frameValid order40 = true ∧ order40.kind = kindOrder ∧
      (byteAt order40.payload 3 * 256 + byteAt order40.payload 4).testBit own.bay.val = true ∧
      (byteAt order40.payload 5 * 256 + byteAt order40.payload 6).testBit own.bay.val = true) ∧
    (let f := frame 0x44#8 0#8 [40#8, 13#8, 12#8, 0xFF#8, 0xFB#8, 0#8, 4#8]
     frameValid f = true ∧ f.kind = kindOrder ∧
     (byteAt f.payload 3 * 256 + byteAt f.payload 4).testBit own.bay.val = false ∧
     (byteAt f.payload 5 * 256 + byteAt f.payload 6).testBit own.bay.val = true) ∧
    (let f := frame 0x44#8 0#8 [40#8, 13#8, 12#8, 0#8, 4#8, 0#8, 0#8]
     frameValid f = true ∧ (byteAt f.payload 3 * 256 + byteAt f.payload 4).testBit own.bay.val = true ∧
     (byteAt f.payload 5 * 256 + byteAt f.payload 6).testBit own.bay.val = false) := by decide +kernel

theorem witness_OrderFrameIsTaken_pumpLaw : PumpLaw { alarmed false with link := { live.link with receiver := .armed } } :=
  ⟨(pumpLaw_alarmed false).loads, (pumpLaw_alarmed false).cut, (pumpLaw_alarmed false).pulse, (pumpLaw_alarmed false).trip,
    (pumpLaw_alarmed false).fail, (pumpLaw_alarmed false).guard, (pumpLaw_alarmed false).feedback,
    (pumpLaw_alarmed false).minRun, (pumpLaw_alarmed false).rest⟩

/-! #### The link interface -/

/-- A transmitter state with a frame in hand, a queue, and its access timer due. -/
def sending (tx : TxState) (f : TxFrame) (attempt : Nat) (queue : List TxFrame) (w : WashState) : State :=
  { live with
    claims := ⟨if w = .releasing then [⟨2, 5, .routine, 600, 0⟩] else [], some 1000⟩, screen := { live.screen with wash := w, tag := 5 },
    link := { live.link with tx := tx, inHand := some ⟨f, attempt, []⟩, queue := queue, accessTimer := some 1000 } }

theorem witness_StatusTimerOffersAStatus :
    (ctx? live = some own ∧ live.link.statusTimer = some 1000#32 ∧ live.link.tx = .idle ∧ live.link.queue = []) ∧
    (let s := sending .send .status 1 [.release 5] .idle
     ctx? s = some own ∧ s.link.statusTimer = some 1000#32 ∧ s.link.tx ≠ .mute ∧ s.link.tx ≠ .idle ∧ .status ∉ s.link.queue) ∧
    (let s := sending .defer .status 1 [.status] .idle
     ctx? s = some own ∧ .status ∈ s.link.queue) ∧
    (let s := { live with link := { live.link with tx := .mute } }
     ctx? s = some own ∧ s.link.statusTimer = some 1000#32 ∧ s.link.tx = .mute ∧ reached s.clock 1000#32 = true) ∧
    (∀ n ∈ [0, 1, 2],
      let x : Ctx := ⟨2, { settings with linkRate := n }⟩
      let s := { live with loader := { live.loader with cfg := some x.cfg } }
      ctx? s = some x ∧ s.link.statusTimer = some 1000#32 ∧ reached s.clock 1000#32 = true ∧ x.cfg.linkRate = n) := by
  decide +kernel

theorem witness_AttemptTakesThePresentValues :
    (ctx? live = some own ∧ live.link.tx ≠ .defer) ∧
    ∀ f ∈ [TxFrame.status, .claim 15 .urgent 9000, .release 0], ctx? (sending .defer f 1 [] .idle) = some own ∧
      (sending .defer f 1 [] .idle).link.tx = .defer ∧ (sending .defer f 1 [] .idle).link.inHand = some ⟨f, 1, []⟩ := by
  decide +kernel

theorem claimLaw_sending (f : TxFrame) : ClaimLaw (sending .send f 1 [] .claiming) :=
  ⟨resetLoads_of rfl, by simp [sending], by simp [sending, urgentFirst], fun x _ => by simp [sending],
    fun x _ => by simp [sending, regraded], fun h => absurd h (not_atRest_of rfl)⟩

theorem witness_CompletionTellsTheSender :
    (let s := sending .send .status 1 [] .idle
     ctx? s = some own ∧ s.link.tx = .send ∧ s.link.inHand = some ⟨.status, 1, []⟩ ∧ s.link.queue = []) ∧
    (sending .send .status 1 [.release 5] .idle).link.queue = [.release 5] ∧
    (let s := sending .send (.claim 5 .urgent 600) 1 [] .claiming
     ClaimLaw s ∧ ctx? s = some own ∧ s.link.inHand = some ⟨.claim 5 .urgent 600, 1, []⟩ ∧ s.screen.wash = .claiming ∧
     standingIn own s.claims.entries = .none ∧ s.screen.completed < (washSetInForce own.cfg s).cycles ∧
     standingIn own (after .transmitCompletion s).claims.entries = .inRange) ∧
    (let s := sending .send (.release 5) 1 [] .releasing
     ctx? s = some own ∧ s.link.inHand = some ⟨.release 5, 1, []⟩ ∧ s.screen.wash = .releasing ∧
     ∃ e ∈ s.claims.entries, e.bay = own.bay ∧ e.tag = 5) ∧
    (let s := sending .send (.release 6) 1 [] .releasing
     s.screen.wash = .releasing ∧ ∀ e ∈ s.claims.entries, e.bay = own.bay → e.tag ≠ 6) := by
  exact ⟨by decide +kernel, by decide +kernel, ⟨claimLaw_sending _, by decide +kernel⟩, by decide +kernel, by decide +kernel⟩

/-- A CLAIM that completes in RELEASING, with nothing behind it or the RELEASE, and one whose cycles are all done. -/
theorem witness_CompletionTellsTheSender_late :
    (∀ q, ClaimLaw { sending .send (.claim 5 .routine 600) 1 q .releasing with claims := ⟨[], some 1000⟩ }) ∧
    (∀ q ∈ [[], [TxFrame.release 5]],
      let s := { sending .send (.claim 5 .routine 600) 1 q .releasing with claims := ⟨[], some 1000⟩ }
      ctx? s = some own ∧ s.link.tx = .send ∧ s.link.inHand = some ⟨.claim 5 .routine 600, 1, []⟩ ∧ s.screen.wash = .releasing ∧
      standingIn own s.claims.entries = .none ∧ s.link.queue = q) ∧
    (let s := inWash .claiming 3 (sending .send (.claim 5 .urgent 600) 1 [] .claiming)
     ClaimLaw s ∧ ctx? s = some own ∧ (washSetInForce own.cfg s).cycles ≤ s.screen.completed ∧ s.link.tx ≠ .mute ∧
     standingIn own (after .transmitCompletion s).claims.entries = .inRange) := by
  refine ⟨fun q => ⟨resetLoads_of rfl, ?_, ?_, ?_, ?_, fun h => absurd h (not_atRest_of rfl)⟩, by decide +kernel,
    claimLaw_inWash (claimLaw_sending _) _ _, by decide +kernel⟩
  all_goals simp [sending, urgentFirst, regraded]

theorem witness_CollisionsRetryAndDrop :
    (let s := sending .send .status 1 [] .idle
     ctx? s = some own ∧ s.link.inHand = some ⟨.status, 1, []⟩ ∧ s.link.tx = .send) ∧
    (∀ tx ∈ [TxState.defer, .backoff], ∀ n ∈ [7, 8],
      ∀ p ∈ [(TxFrame.status, WashState.idle), (.claim 5 .routine 600, .claiming), (.claim 5 .routine 600, .releasing),
        (.release 5, .releasing)],
      ctx? (sending tx p.1 n [] p.2) = some own ∧ (sending tx p.1 n [] p.2).link.tx = tx ∧
      (sending tx p.1 n [] p.2).link.inHand = some ⟨p.1, n, []⟩ ∧ (sending tx p.1 n [] p.2).screen.wash = p.2 ∧
      (sending tx p.1 n [] p.2).link.queue = [] ∧ (sending tx p.1 n [] p.2).link.accessTimer = some 1000#32 ∧
      reached (sending tx p.1 n [] p.2).clock 1000#32 = true) := by decide +kernel

theorem witness_ReceiverFindsTheFrames :
    (live.inReset = false ∧ live.link.receiver = .waitIdle ∧ hearing.link.receiver ≠ .waitIdle ∧ hearing.link.receiver = .armed ∧
      live.link.receiver ≠ .armed) ∧
    (let s := { hearing with link := { hearing.link with tx := .send } }
     s.inReset = false ∧ s.link.receiver ≠ .waitIdle ∧ s.link.tx = .send) ∧
    (let s := { loading with link := { loading.link with receiver := .armed } }
     s.inReset = false ∧ s.link.receiver ≠ .waitIdle ∧ ctx? s = none) ∧
    (hearing.inReset = false ∧ frameValid { releaseOf5 with crc := 0#16 } = false) := by decide +kernel

/-- START_PENDING with a START pulse is met in no run, and a pump at rest is: the two forms of the conflict's pump clauses. -/
def pendingStart : State :=
  { listing [] with pump := { live.pump with state := .startPending, guardTimer := some 2000 } }

def starting : State :=
  { listing [] with pump := { live.pump with
      state := .starting, pulse := some .start, pulseTimer := some 2000, feedbackTimer := some 9000 } }

theorem laws_pendingStart : ClaimLaw pendingStart ∧ PumpLaw pendingStart :=
  ⟨⟨claimLaw_empty.loads, claimLaw_empty.single, claimLaw_empty.ordered, claimLaw_empty.present, claimLaw_empty.timed,
      claimLaw_empty.rest⟩,
    ⟨resetLoads_of rfl, by simp [pendingStart], rfl, by decide +kernel, by decide +kernel, by decide +kernel, by decide +kernel,
      by decide +kernel, fun h => absurd h (not_atRest_of rfl)⟩⟩

theorem laws_starting : ClaimLaw starting ∧ PumpLaw starting :=
  ⟨⟨claimLaw_empty.loads, claimLaw_empty.single, claimLaw_empty.ordered, claimLaw_empty.present, claimLaw_empty.timed,
      claimLaw_empty.rest⟩,
    ⟨resetLoads_of rfl, by simp [starting], rfl, by decide +kernel, by decide +kernel, by decide +kernel, by decide +kernel,
      by decide +kernel, fun h => absurd h (not_atRest_of rfl)⟩⟩

theorem witness_OwnBayHeardIsAConflict :
    (ClaimLaw pendingStart ∧ PumpLaw pendingStart) ∧ (ClaimLaw starting ∧ PumpLaw starting) ∧
    (let f := frame 0x11#8 3#8 (encodeReport calm)
     frameValid f = true ∧ f.kind = kindStatus ∧ bayOfByte f.bay = some own.bay) ∧
    (ctx? pendingStart = some own ∧ pendingStart.link.receiver ≠ .waitIdle ∧ pendingStart.link.tx ≠ .send ∧
      pendingStart.conds.bayConflict = false ∧ pendingStart.pump.state = .startPending ∧ pendingStart.pump.pulse ≠ some .start ∧
      alarmEnabled own.cfg 15 = true ∧ alarmState pendingStart .bayConflict = .normal) ∧
    (ctx? starting = some own ∧ starting.link.receiver ≠ .waitIdle ∧ starting.link.tx ≠ .send ∧
      starting.conds.bayConflict = false ∧ starting.pump.pulse = some .start ∧ starting.pump.state ≠ .startPending) ∧
    (let s := { hearing with conds := { live.conds with bayConflict := true }, link := { hearing.link with tx := .mute } }
     ctx? s = some own ∧ s.link.receiver ≠ .waitIdle ∧ s.link.tx ≠ .send ∧ s.conds.bayConflict = true) := by
  exact ⟨laws_pendingStart, laws_starting, by decide +kernel⟩

/-! #### The duty record, the layouts and the laws -/

/-- A record write in a state, its poll timer due, its READ STATUS under way. -/
def writing (w : WriteState) (count : Nat) (pending : Bool) : State :=
  { live with loader := { live.loader with
      write := w, pollCount := count, writePending := pending, pollTimer := some 1000, spi := some .readStatus } }

theorem witness_RecordWriteRunsItsStates :
    (∀ w ∈ [WriteState.enable, .program, .poll], ∀ n ∈ [48, 49], ∀ b ∈ [true, false], ctx? (writing w n b) = some own ∧
      (writing w n b).loader.write = w ∧ (writing w n b).loader.pollTimer = some 1000#32 ∧
      reached (writing w n b).clock 1000#32 = true ∧ (writing w n b).loader.spi = some .readStatus ∧
      (writing w n b).loader.pollCount = n ∧ (writing w n b).loader.writePending = b) ∧
    (1#8).getLsbD 0 = true ∧ (0#8).getLsbD 0 = false ∧ 48 + 1 < 50 ∧ 50 ≤ 49 + 1 := by decide +kernel

/-- A report of calm waters with the bytes at two places replaced. -/
def reportWith (i : Nat) (a : Byte) (j : Nat) (b : Byte) : List Byte := ((encodeReport calm).set i a).set j b

/-- Every part of the content check refuses the value beyond its end, and the last value before it is read. -/
theorem witness_LayoutsReadBackWhole_refusals :
    (∀ p ∈ [reportWith 1 0x03 1 0x03, reportWith 1 0x0C 1 0x0C, reportWith 1 0x30 1 0x30, reportWith 2 0x08 2 0x08,
        reportWith 2 0x80 2 0x80, reportWith 3 0x06 3 0x06, reportWith 4 101 4 101, reportWith 5 0xD8 6 0xEF,
        reportWith 5 0x75 6 0x31, reportWith 7 0xD8 8 0xEF, reportWith 7 0x75 8 0x31, reportWith 11 7 11 7,
        reportWith 12 0x03 13 0x58, reportWith 12 0x03 13 0xFE, reportWith 12 0x04 13 0x00, reportWith 16 0x04 17 0xB1],
      decodeReport p = none) ∧
    (∀ p ∈ [reportWith 1 0x2A 2 0x77, reportWith 3 0xFD 4 100, reportWith 5 0xD8 6 0xF0, reportWith 7 0x75 8 0x30,
        reportWith 11 6 13 0xFF, reportWith 12 0x03 13 0x57, reportWith 16 0x04 17 0xB0], (decodeReport p).isSome = true) := by
  decide +kernel

theorem witness_LayoutsReadBackWhole :
    (let r := { calm with tag := 15, fouling := 100, outerLevel := -10000, innerLevel := 30000, runHours := 65535, starts := 6,
                          score := 855, screenPeriod := 65535, swarmIntensity := 1200 }
     r.tag < 16 ∧ r.fouling ≤ 100 ∧ -10000 ≤ r.outerLevel ∧ r.outerLevel ≤ 30000 ∧ -10000 ≤ r.innerLevel ∧ r.innerLevel ≤ 30000 ∧
     r.runHours < 65536 ∧ r.starts ≤ 6 ∧ (r.score ≤ 855 ∨ r.score = 1023) ∧ r.screenPeriod < 65536 ∧ r.swarmIntensity ≤ 1200) ∧
    ((15 : Nat) < 16 ∧ 1 ≤ 9000 ∧ 9000 ≤ 9000) ∧ 16777215 < 2 ^ 24 ∧
    (kindLength kindClaim = some [9#8, 0#8, 2#8, 0x58#8].length ∧ kindClaim ≠ kindOrder) := by decide +kernel

/-- A station at work keeps every law of its own, so the statement of each says something of a step at work. -/
theorem laws_live :
    ScreenLaw live ∧ PumpLaw live ∧ CountedLaw live ∧ StartLaw live ∧ AlarmLaw live ∧ LadderLaw live ∧ ClaimLaw live ∧
    LinkLaw live ∧ WashLaw live := by
  have no : ¬atRest live := not_atRest_of rfl
  have ld : ResetLoads live := resetLoads_of rfl
  refine ⟨⟨ld, by decide +kernel, by decide +kernel, by decide +kernel, by decide +kernel, by decide +kernel, by decide +kernel,
      fun h => absurd h no⟩,
    ⟨ld, by decide +kernel, by decide +kernel, by decide +kernel, by decide +kernel, by decide +kernel, by decide +kernel,
      by decide +kernel, fun h => absurd h no⟩,
    ⟨ld, by decide +kernel, by decide +kernel, by decide +kernel, fun h => absurd h no⟩,
    ⟨ld, of_own at_work (by decide +kernel), of_own at_work (by decide +kernel), fun h => absurd h no⟩,
    ⟨ld, ?_, ?_, fun h => absurd h no⟩,
    ⟨ld, by decide +kernel, of_own at_work rfl, ?_, fun h => absurd h no⟩,
    ⟨ld, by decide, by simp [urgentFirst, live], fun x _ => by simp [live], fun x _ => by simp [live, regraded], fun h => absurd h no⟩,
    ⟨ld, by decide +kernel, by decide +kernel, ?_, by decide +kernel, by decide +kernel, by decide +kernel, by decide +kernel,
      fun h => absurd h no⟩,
    ⟨ld, of_own at_work ⟨rfl, rfl⟩, by decide +kernel, fun x _ => by simp [ownClaims, live], fun h => absurd h no⟩⟩
  · intro x a _ _
    cases a <;> decide +kernel
  · intro x a _ _
    cases a <;> rfl
  · intro c hc
    cases hc
    decide +kernel
  · intro h hh
    cases hh

theorem witness_EveryStepKeepsItsLaws :
    (ScreenLaw live ∧ PumpLaw live ∧ CountedLaw live ∧ StartLaw live ∧ AlarmLaw live ∧ LadderLaw live ∧ ClaimLaw live ∧
      LinkLaw live ∧ WashLaw live) ∧
    ∃ t, step live = .next t ∧ t.clock = 1001 :=
  ⟨laws_live, _, rfl, by decide +kernel⟩

/-- A station in WASHING under its own listed claim. -/
def washing : State :=
  { listing [⟨2, 5, .routine, 600, 0⟩] with
    screen := { live.screen with
      wash := .washing, tag := 5, working := settings.routineSet, cycleTimer := some 1000, drive := .fast, stallTimer := some 3000 } }

theorem witness_EveryStepKeepsTheWashLaw :
    (LinkLaw washing ∧ ScreenLaw washing ∧ WashLaw washing) ∧
    ∃ t, step washing = .next t ∧ ctx? t = some own ∧ t.screen.wash = .washing := by
  have no : ¬atRest washing := not_atRest_of rfl
  have ld : ResetLoads washing := resetLoads_of rfl
  refine ⟨⟨⟨ld, ?_, ?_, fun _ k => (nomatch k), ?_, ?_, ?_, ?_, fun k => absurd k no⟩,
    ⟨ld, ?_, ?_, ?_, ?_, ?_, ?_, fun k => absurd k no⟩,
    ⟨ld, of_own (by decide +kernel) ⟨by decide +kernel, by decide +kernel⟩, ?_, of_own (by decide +kernel) (by decide +kernel),
      fun k => absurd k no⟩⟩, _, rfl, ?_⟩
  all_goals decide +kernel

/-- An ORDER heard on every rung below LINKED, its number new or the last applied: the ladder returns, and LINK ISOLATED ends. -/
def unlinked (st : Stage) (entry : AlarmState) (last : Option Byte) : State :=
  { hearing with
    ladder := ⟨9, st⟩, conds := { live.conds with linkIsolated := st = .isolated }, alarms := live.alarms.set 14 entry,
    order := { live.order with lastApplied := last } }

theorem witness_OrderFrameIsTaken_relinks :
    (∀ st a l, PumpLaw (unlinked st a l)) ∧
    (∀ st ∈ [Stage.quiet, .isolated], ∀ a ∈ [AlarmState.unack, .acked], ∀ l ∈ [none, some 40#8],
      let s := unlinked st a l
      ctx? s = some own ∧ s.link.receiver ≠ .waitIdle ∧ s.link.tx ≠ .send ∧ s.link.tx ≠ .mute ∧ s.ladder.stage = st ∧
      s.conds.linkIsolated = decide (st = .isolated) ∧ alarmState s .linkIsolated = a ∧ alarmEnabled own.cfg 14 = true ∧
      s.order.lastApplied = l) ∧
    (after (.orderFrame order40) (unlinked .isolated .unack (some 40#8))).ladder = ⟨0, .linked⟩ ∧
    alarmState (after (.orderFrame order40) (unlinked .isolated .unack (some 40#8))) .linkIsolated = .returned :=
  have h := laws_live.2.1
  ⟨fun _ _ _ => ⟨resetLoads_of rfl, h.cut, h.pulse, h.trip, h.fail, h.guard, h.feedback, h.minRun,
    fun k => absurd k (not_atRest_of rfl)⟩, by decide +kernel⟩

theorem witness_PhasesMoveInOrder_halted :
    let s := { loading with loader := { loading.loader with phase := .halted, spi := none }, pending := [.tripCloses] }
    ResetLoads s ∧ s.loader.phase = .halted ∧ ∃ t, step s = .next t ∧ t.loader.phase = .halted ∧ outputs t = haltedOutputs :=
  ⟨resetLoads_of rfl, rfl, _, rfl, by decide +kernel⟩

theorem witness_PhasesMoveInOrder :
    ResetLoads live ∧ (∃ t, step live = .next t ∧ live.inReset = false ∧ t.inReset = false ∧ live.loader.phase ≠ .loading) ∧
    ∃ t, step { live with pending := [.reset] } = .next t ∧ t.inReset = true :=
  ⟨resetLoads_of rfl, ⟨_, rfl, by decide +kernel⟩, _, rfl, rfl⟩

end Sys2Proof.Tests
end

section
/-! PROOF. The level front end: what the clamp, the conversion, one sample of a loop and a filter update answer, and the statements
O9, O10 and O11 settled from it. -/

namespace Sys2Proof.Machine

/-! ### The clamp and the conversion (R3 to R5) -/

theorem clampCode_of_le {c : Nat} (h : c ≤ 800) : clampCode c = 800 := by
  unfold clampCode; omega

theorem clampCode_of_ge {c : Nat} (h : 4000 ≤ c) : clampCode c = 4000 := by
  unfold clampCode; omega

theorem clampCode_of_live {c : Nat} (hlo : 800 ≤ c) (hhi : c ≤ 4000) : clampCode c = c := by
  unfold clampCode; omega

theorem clampCode_bounds (c : Nat) : 800 ≤ clampCode c ∧ clampCode c ≤ 4000 := by
  unfold clampCode; omega

theorem clampCode_clampCode (c : Nat) : clampCode (clampCode c) = clampCode c :=
  clampCode_of_live (clampCode_bounds c).1 (clampCode_bounds c).2

theorem levelOfCode_clampCode (l : LoopSettings) (c : Nat) : levelOfCode l (clampCode c) = levelOfCode l c :=
  congrArg (convertCode l) (clampCode_clampCode c)

theorem loopInRange_iff (l : LoopSettings) : loopInRange l = true ↔
    (-10000 ≤ l.zero ∧ l.zero ≤ 10000) ∧ (1000 ≤ l.span ∧ l.span ≤ 20000) := by
  simp [loopInRange, between, betweenInt]

/-- The conversion as R5 writes it, with integer subtraction and the floor toward minus infinity. -/
theorem convertCode_eq_fdiv (l : LoopSettings) {c : Nat} (h : 800 ≤ c) :
    convertCode l c = l.zero + Int.fdiv (((c : Int) - 800) * l.span) 3200 := by
  rw [Int.fdiv_eq_ediv_of_nonneg _ (by decide), convertCode]
  push_cast [h]
  rfl

/-- The most that a code of the live span multiplies the span by is 3200. -/
theorem share_le (l : LoopSettings) {c : Nat} (h : c ≤ 4000) : (c - 800) * l.span ≤ 3200 * l.span :=
  Nat.mul_le_mul_right _ (by omega)

theorem convertCode_bounds (l : LoopSettings) {c : Nat} (h : c ≤ 4000) :
    l.zero ≤ convertCode l c ∧ convertCode l c ≤ l.zero + l.span := by
  have hshare : (c - 800) * l.span / 3200 ≤ l.span := Nat.div_le_of_le_mul (share_le l h)
  unfold convertCode
  omega

/-! ### One sample of a loop (R7 to R10) -/

theorem sampleLoop_of_inRange (k : Nat) (l : LoopSettings) {c : Nat} (r : LoopRecord) (hlo : 760 ≤ c) (hhi : c ≤ 4040) :
    sampleLoop k l c r = sampleInRange k (levelOfCode l c) r := by
  have hclass : classOfCode c = .inRange := by simp [classOfCode, hhi, Nat.not_lt.mpr hlo]
  simp [sampleLoop, hclass]

theorem sampleLoop_of_outOfRange (k : Nat) (l : LoopSettings) {c : Nat} (r : LoopRecord) (h : c < 760 ∨ 4040 < c) :
    sampleLoop k l c r = sampleOutOfRange (if c < 760 then .under else .over) r := by
  by_cases hunder : c < 760
  · simp [sampleLoop, classOfCode, hunder]
  · have hover : ¬c ≤ 4040 := by omega
    simp [sampleLoop, classOfCode, hunder, hover]

/-- The first two out-of-range samples in a row only count. -/
theorem sampleOutOfRange_counts (kind : Sensor) {r : LoopRecord} (h : r.faultRun < 2) :
    sampleOutOfRange kind r = { r with goodRun := 0, faultRun := r.faultRun + 1 } := by
  have hrun : min (r.faultRun + 1) 3 = r.faultRun + 1 := by omega
  have hne : r.faultRun + 1 ≠ 3 := by omega
  simp only [sampleOutOfRange, hrun, if_neg hne]

/-- From the third in a row on, each gives the sensor state its kind. -/
theorem sampleOutOfRange_fails (kind : Sensor) {r : LoopRecord} (h : 2 ≤ r.faultRun) :
    sampleOutOfRange kind r = { r with goodRun := 0, faultRun := 3, state := kind, startMark := false } := by
  have hrun : min (r.faultRun + 1) 3 = 3 := by omega
  simp only [sampleOutOfRange, hrun, if_true]

theorem sampleInRange_of_startMark (k : Nat) (level : Int) {r : LoopRecord} (h : r.startMark = true) :
    sampleInRange k level r = { state := .good, startMark := false, goodRun := 1, faultRun := 0,
                                acc := level * 2 ^ k, level := level } := by
  simp only [sampleInRange, h, if_true, filterInit]

theorem sampleInRange_of_good (k : Nat) (level : Int) {r : LoopRecord} (hmark : r.startMark = false) (hgood : r.state = .good) :
    sampleInRange k level r = filterUpdate k level { r with faultRun := 0, goodRun := min (r.goodRun + 1) 3 } := by
  simp [sampleInRange, hmark, hgood]

/-- The first two in-range samples in a row of a failed sensor only count. -/
theorem sampleInRange_counts (k : Nat) (level : Int) {r : LoopRecord} (hmark : r.startMark = false) (hbad : r.state ≠ .good)
    (h : r.goodRun < 2) : sampleInRange k level r = { r with goodRun := r.goodRun + 1, faultRun := 0 } := by
  have hrun : min (r.goodRun + 1) 3 = r.goodRun + 1 := by omega
  have hne : r.goodRun ≠ 2 := by omega
  simp [sampleInRange, hmark, hbad, hrun, hne]

/-- The third in a row restores it, with the filter initialised (R12). -/
theorem sampleInRange_restores (k : Nat) (level : Int) {r : LoopRecord} (hmark : r.startMark = false) (hbad : r.state ≠ .good)
    (h : 2 ≤ r.goodRun) :
    sampleInRange k level r = { state := .good, startMark := false, goodRun := 3, faultRun := 0,
                                acc := level * 2 ^ k, level := level } := by
  have hrun : min (r.goodRun + 1) 3 = 3 := by omega
  simp [sampleInRange, hmark, hbad, hrun, filterInit]

/-- A margin code is sampled as the end of the live span. -/
theorem sampleLoop_clampCode (k : Nat) (l : LoopSettings) {c : Nat} (r : LoopRecord) (hlo : 760 ≤ c) (hhi : c ≤ 4040) :
    sampleLoop k l c r = sampleLoop k l (clampCode c) r := by
  obtain ⟨hclampLo, hclampHi⟩ := clampCode_bounds c
  rw [sampleLoop_of_inRange k l r hlo hhi, sampleLoop_of_inRange k l r (by omega) (by omega), levelOfCode_clampCode]

/-! ### The filter update (R11) -/

theorem two_pow_pos (k : Nat) : (0 : Int) < 2 ^ k := Int.pow_pos (by decide)

theorem fdiv_two_pow (a : Int) (k : Nat) : Int.fdiv a (2 ^ k) = a / 2 ^ k :=
  Int.fdiv_eq_ediv_of_nonneg a (two_pow_pos k).le

/-- What the filter keeps of its accumulator grows with it: the share taken away never grows faster than what it is taken from. -/
theorem sub_ediv_mono {q a b : Int} (hq : 0 < q) (h : a ≤ b) : a - a / q ≤ b - b / q := by
  have hgap : b - a ≤ (b - a) * q := le_mul_of_one_le_right (by omega) hq
  have hdiv : b / q ≤ a / q + (b - a) := calc
    b / q ≤ (a + (b - a) * q) / q := Int.ediv_le_ediv hq (by omega)
    _ = a / q + (b - a) := Int.add_mul_ediv_right a (b - a) hq.ne'
  omega

section
variable {k : Nat} {L lo hi : Int} {r : LoopRecord}

theorem filterUpdate_level (k : Nat) (L : Int) (r : LoopRecord) :
    (filterUpdate k L r).level = (filterUpdate k L r).acc / 2 ^ k := rfl

theorem filterUpdate_acc (hr : r.level = r.acc / 2 ^ k) : (filterUpdate k L r).acc = r.acc + L - r.level := by
  simp [filterUpdate, hr]

theorem filterUpdate_acc_le (hL : L ≤ hi) (ha : r.acc ≤ hi * 2 ^ k) : (filterUpdate k L r).acc ≤ hi * 2 ^ k := by
  have hmono := sub_ediv_mono (two_pow_pos k) ha
  rw [Int.mul_ediv_cancel _ (two_pow_pos k).ne'] at hmono
  simp only [filterUpdate]
  omega

theorem le_filterUpdate_acc (hL : lo ≤ L) (ha : lo * 2 ^ k ≤ r.acc) : lo * 2 ^ k ≤ (filterUpdate k L r).acc := by
  have hmono := sub_ediv_mono (two_pow_pos k) ha
  rw [Int.mul_ediv_cancel _ (two_pow_pos k).ne'] at hmono
  simp only [filterUpdate]
  omega

theorem filterUpdate_level_le (hL : L ≤ hi) (ha : r.acc ≤ hi * 2 ^ k) : (filterUpdate k L r).level ≤ hi :=
  Int.ediv_le_of_le_mul (two_pow_pos k) (filterUpdate_acc_le hL ha)

theorem le_filterUpdate_level (hL : lo ≤ L) (ha : lo * 2 ^ k ≤ r.acc) : lo ≤ (filterUpdate k L r).level :=
  Int.le_ediv_of_mul_le (two_pow_pos k) (le_filterUpdate_acc hL ha)

/-- A record whose level is the input is left as it is, whatever remainder its accumulator holds. -/
theorem filterUpdate_eq_self (hr : r.level = r.acc / 2 ^ k) (h : r.level = L) : filterUpdate k L r = r := by
  have hacc : (filterUpdate k L r).acc = r.acc := by rw [filterUpdate_acc hr]; omega
  have hlevel : (filterUpdate k L r).level = r.level := by rw [filterUpdate_level, hacc, hr]
  calc filterUpdate k L r
      = { r with acc := (filterUpdate k L r).acc, level := (filterUpdate k L r).level } := rfl
    _ = r := by rw [hacc, hlevel]

theorem acc_lt_of_level_lt (hr : r.level = r.acc / 2 ^ k) (h : r.level < L) : r.acc < L * 2 ^ k :=
  Int.lt_mul_of_ediv_lt (two_pow_pos k) (hr ▸ h)

theorem le_acc_of_le_level (hr : r.level = r.acc / 2 ^ k) (h : L ≤ r.level) : L * 2 ^ k ≤ r.acc :=
  Int.mul_le_of_le_ediv (two_pow_pos k) (hr ▸ h)

theorem filterUpdate_level_between (hr : r.level = r.acc / 2 ^ k) :
    min r.level L ≤ (filterUpdate k L r).level ∧ (filterUpdate k L r).level ≤ max r.level L := by
  rcases lt_trichotomy r.level L with hlt | heq | hgt
  · have hlower := le_filterUpdate_level hlt.le (le_acc_of_le_level hr le_rfl)
    have hupper := filterUpdate_level_le le_rfl (acc_lt_of_level_lt hr hlt).le
    omega
  · rw [filterUpdate_eq_self hr heq]
    omega
  · have hlower := le_filterUpdate_level le_rfl (le_acc_of_le_level hr hgt.le)
    have hupper : (filterUpdate k L r).level ≤ r.level := by
      rw [filterUpdate_level, filterUpdate_acc hr]
      exact (Int.ediv_le_ediv (two_pow_pos k) (by omega)).trans hr.ge
    omega

/-- While the level is off the input, an update brings the accumulator nearer to the input's scaled value. -/
theorem filterUpdate_nearer (hr : r.level = r.acc / 2 ^ k) (h : r.level ≠ L) :
    ((filterUpdate k L r).acc - L * 2 ^ k).natAbs + 1 ≤ (r.acc - L * 2 ^ k).natAbs := by
  have hacc : (filterUpdate k L r).acc = r.acc + L - r.level := filterUpdate_acc hr
  rcases lt_or_gt_of_ne h with hlt | hgt
  · have hupper := filterUpdate_acc_le le_rfl (acc_lt_of_level_lt hr hlt).le
    omega
  · have hlower := le_filterUpdate_acc le_rfl (le_acc_of_le_level hr hgt.le)
    omega

/-- A constant input is reached: the distance of the accumulator falls at each update until the level is the input. -/
theorem filterUpdate_reaches (k : Nat) (L : Int) (r : LoopRecord) (hr : r.level = r.acc / 2 ^ k) :
    ∃ n, ((filterUpdate k L)^[n] r).level = L ∧
      ((filterUpdate k L)^[n] r).level = ((filterUpdate k L)^[n] r).acc / 2 ^ k := by
  by_cases h : r.level = L
  · exact ⟨0, h, hr⟩
  · have hnearer := filterUpdate_nearer hr h
    obtain ⟨n, hn⟩ := filterUpdate_reaches k L (filterUpdate k L r) (filterUpdate_level k L r)
    exact ⟨n + 1, hn⟩
termination_by (r.acc - L * 2 ^ k).natAbs

/-- Once reached, it is kept. -/
theorem filterUpdate_settles (hr : r.level = r.acc / 2 ^ k) :
    ∃ n, ∀ m, n ≤ m → ((filterUpdate k L)^[m] r).level = L := by
  obtain ⟨n, hlevel, hfloor⟩ := filterUpdate_reaches k L r hr
  refine ⟨n, fun m hm => ?_⟩
  have hsplit : (filterUpdate k L)^[m] r = (filterUpdate k L)^[m - n] ((filterUpdate k L)^[n] r) := by
    rw [← Function.iterate_add_apply, Nat.sub_add_cancel hm]
  rw [hsplit, Function.iterate_fixed (filterUpdate_eq_self hfloor hlevel)]
  exact hlevel

end

/-! ### The statements -/

/-- Settles O9: the clamp by its cases, the conversion by its floored share. -/
theorem codesConvertToLevels : Obligations.CodesConvertToLevels := by
  refine ⟨fun c _ _ => clampCode_of_le (by omega), fun c _ _ => clampCode_of_ge (by omega),
    fun c => clampCode_of_live, fun c hlo hhi => ?_, fun l c hl hlo hhi => ?_, fun _ _ _ _ => rfl, by decide, by decide,
    fun _ _ _ _ => ⟨rfl, rfl⟩⟩
  · obtain ⟨hclampLo, hclampHi⟩ := clampCode_bounds c
    exact ⟨hclampLo, hclampHi, fun k l r => sampleLoop_clampCode k l r hlo hhi⟩
  · obtain ⟨⟨hzeroLo, hzeroHi⟩, _, hspan⟩ := (loopInRange_iff l).mp hl
    obtain ⟨hlevelLo, hlevelHi⟩ := convertCode_bounds l hhi
    have hshare := share_le l hhi
    have hcast : ((c : Int) - 800) * l.span = ((c - 800) * l.span : Nat) := by push_cast [hlo]; rfl
    exact ⟨convertCode_eq_fdiv l hlo, by omega, by omega, hlevelLo, hlevelHi, by omega, by omega⟩

/-- Settles O10: by the class of the code, then by the start mark, the sensor state and the run. -/
theorem samplesJudgeTheSensor : Obligations.SamplesJudgeTheSensor := by
  intro k l c r _ _
  refine ⟨fun hc hrun => ?_, fun hc hrun => ?_, fun hlo hhi hmark => ?_, fun hlo hhi hmark hgood => ?_,
    fun hlo hhi hmark hbad hrun => ?_, fun hlo hhi hmark hbad hrun => ?_⟩
  · rw [sampleLoop_of_outOfRange k l r hc, sampleOutOfRange_counts _ hrun]
  · rw [sampleLoop_of_outOfRange k l r hc, sampleOutOfRange_fails _ hrun]
  · rw [sampleLoop_of_inRange k l r hlo hhi, sampleInRange_of_startMark k _ hmark]
  · rw [sampleLoop_of_inRange k l r hlo hhi, sampleInRange_of_good k _ hmark hgood]
    simp only [fdiv_two_pow, filterUpdate]
  · rw [sampleLoop_of_inRange k l r hlo hhi, sampleInRange_counts k _ hmark hbad hrun]
  · rw [sampleLoop_of_inRange k l r hlo hhi, sampleInRange_restores k _ hmark hbad hrun]

/-- Settles O11: the bounds by the growth of the filtered accumulator with it, the settling by its falling distance to the input. -/
theorem filterIsBoundedAndSettles : Obligations.FilterIsBoundedAndSettles := by
  intro k L r hk hfloor
  have hr : r.level = r.acc / 2 ^ k := hfloor.trans (fdiv_two_pow r.acc k)
  have hrange : ∀ lo hi : Int, lo ≤ L → L ≤ hi → lo * 2 ^ k ≤ r.acc → r.acc ≤ hi * 2 ^ k →
      lo ≤ (filterUpdate k L r).level ∧ (filterUpdate k L r).level ≤ hi ∧
      lo * 2 ^ k ≤ (filterUpdate k L r).acc ∧ (filterUpdate k L r).acc ≤ hi * 2 ^ k :=
    fun _ _ hlo hhi halo hahi => ⟨le_filterUpdate_level hlo halo, filterUpdate_level_le hhi hahi,
      le_filterUpdate_acc hlo halo, filterUpdate_acc_le hhi hahi⟩
  refine ⟨⟨?_, ?_⟩, filterUpdate_level_between hr, hrange, fun hlo hhi halo hahi => ?_, fun hscaled => ?_, fun heq => ?_,
    filterUpdate_nearer hr, filterUpdate_settles hr, fun hk0 => ?_⟩
  · rw [filterUpdate_acc hr, hfloor]
  · rw [filterUpdate_level, fdiv_two_pow]
  · obtain ⟨_, _, hlower, hupper⟩ := hrange _ _ hlo hhi halo hahi
    have hpow : (2 : Int) ^ k ≤ 32 := pow_le_pow_right₀ (by decide : (1 : Int) ≤ 2) hk
    omega
  · have hlevel : r.level = L := by rw [hr, hscaled, Int.mul_ediv_cancel _ (two_pow_pos k).ne']
    rw [filterUpdate_eq_self hr hlevel]
    exact ⟨rfl, rfl⟩
  · rw [filterUpdate_eq_self hr heq]
    exact ⟨rfl, heq⟩
  · subst hk0
    simp [filterUpdate]

end Sys2Proof.Machine
end

section
/-! PROOF. The median of the tide monitor: what it is of readings in ascending order, how many readings stand on each side of it, and the
statement about it. -/

namespace Sys2Proof.Machine

/-! ### The median by the middle readings (R38) -/

/-- Odd and even lengths in one form: the middle reading of an odd number is the mean of itself with itself. -/
theorem median_eq_of_middles {l r : List Int} {lo hi : Int} (hperm : r.Perm l) (hsorted : r.Pairwise (· ≤ ·)) (hne : l ≠ [])
    (hlo : r[(l.length - 1) / 2]? = some lo) (hhi : r[l.length / 2]? = some hi) : median l = some ((lo + hi) / 2) := by
  have hsort : l.insertionSort (· ≤ ·) = r :=
    ((l.perm_insertionSort _).trans hperm.symm).eq_of_pairwise' (l.pairwise_insertionSort _) hsorted
  have hlen : l.length ≠ 0 := mt List.length_eq_zero_iff.mp hne
  simp only [median, hsort, if_neg hlen]
  split
  next hodd =>
    have hsame : (l.length - 1) / 2 = l.length / 2 := by omega
    obtain rfl : lo = hi := by simpa [← hsame, hlo] using hhi
    rw [hlo, Option.some_inj]
    omega
  next heven =>
    have hbelow : l.length / 2 - 1 = (l.length - 1) / 2 := by omega
    simp [hbelow, hlo, hhi]

/-- The two middle readings of a list in ascending order: the same one of an odd number. -/
theorem exists_middles {l r : List Int} (hperm : r.Perm l) (hne : l ≠ []) :
    ∃ lo hi, r[(l.length - 1) / 2]? = some lo ∧ r[l.length / 2]? = some hi := by
  have hpos := List.length_pos_iff.mpr hne
  have hlen := hperm.length_eq
  exact ⟨_, _, List.getElem?_eq_getElem (by omega), List.getElem?_eq_getElem (by omega)⟩

theorem median_of_odd {l r : List Int} (hperm : r.Perm l) (hsorted : r.Pairwise (· ≤ ·)) (hodd : l.length % 2 = 1) :
    median l = r[(l.length - 1) / 2]? := by
  have hne : l ≠ [] := by rintro rfl; simp at hodd
  obtain ⟨lo, hi, hlo, hhi⟩ := exists_middles hperm hne
  have hsame : l.length / 2 = (l.length - 1) / 2 := by omega
  rw [median_eq_of_middles hperm hsorted hne hlo (hsame ▸ hlo), hlo, Option.some_inj]
  omega

@[simp] theorem median_nil : median [] = none := rfl

theorem median_singleton (a : Int) : median [a] = some a := by
  simpa using median_of_odd (.refl _) (List.pairwise_singleton _ a) rfl

theorem median_pair (a b : Int) : median [a, b] = some ((a + b) / 2) := by
  rcases Int.le_total a b with h | h
  · exact median_eq_of_middles (.refl _) (by simpa using h) (by simp) (by simp) (by simp)
  · rw [add_comm]
    exact median_eq_of_middles (.swap a b []) (by simpa using h) (by simp) (by simp) (by simp)

theorem median_eq_none_iff (l : List Int) : median l = none ↔ l = [] := by
  refine ⟨fun hnone => by_contra fun hne => ?_, fun hnil => hnil ▸ median_nil⟩
  obtain ⟨lo, hi, hlo, hhi⟩ := exists_middles (l.perm_insertionSort (· ≤ ·)) hne
  simp [median_eq_of_middles (l.perm_insertionSort _) (l.pairwise_insertionSort _) hne hlo hhi] at hnone

/-! ### The readings on each side -/

/-- In ascending order the readings up to a position are no greater than the one there. -/
theorem lt_countP_le_of_sorted {r : List Int} {i : Nat} {a : Int} (hsorted : r.Pairwise (· ≤ ·)) (hi : r[i]? = some a) :
    i < r.countP (· ≤ a) := by
  obtain ⟨hlt, rfl⟩ := List.getElem?_eq_some_iff.mp hi
  have hall : (r.take (i + 1)).countP (· ≤ r[i]) = (r.take (i + 1)).length := by
    refine List.countP_eq_length.mpr fun b hb => ?_
    obtain ⟨j, hj, rfl⟩ := List.mem_take_iff_getElem.mp hb
    simpa using hsorted.sortedLE.getElem_le_getElem_of_le (by omega : j ≤ i)
  have hsub := (List.take_sublist (i + 1) r).countP_le (p := (· ≤ r[i]))
  rw [hall, List.length_take] at hsub
  omega

/-- In ascending order the readings from a position on are no less than the one there. -/
theorem sub_le_countP_ge_of_sorted {r : List Int} {i : Nat} {a : Int} (hsorted : r.Pairwise (· ≤ ·)) (hi : r[i]? = some a) :
    r.length - i ≤ r.countP (a ≤ ·) := by
  obtain ⟨hlt, rfl⟩ := List.getElem?_eq_some_iff.mp hi
  have hall : (r.drop i).countP (r[i] ≤ ·) = (r.drop i).length := by
    refine List.countP_eq_length.mpr fun b hb => ?_
    obtain ⟨j, hj, rfl⟩ := List.mem_drop_iff_getElem.mp hb
    simpa using hsorted.sortedLE.getElem_le_getElem_of_le (by omega : i ≤ i + j)
  rw [← List.length_drop, ← hall]
  exact (List.drop_sublist i r).countP_le

/-- What makes the median robust: half of the readings or more stand at or below it, and half or more at or above it. -/
theorem half_le_countP_of_median {l : List Int} {m : Int} (hm : median l = some m) :
    (l.length + 1) / 2 ≤ l.countP (· ≤ m) ∧ (l.length + 1) / 2 ≤ l.countP (m ≤ ·) := by
  have hne : l ≠ [] := by rintro rfl; simp at hm
  have hperm := l.perm_insertionSort (· ≤ ·)
  have hsorted := l.pairwise_insertionSort (· ≤ ·)
  have hpos := List.length_pos_iff.mpr hne
  obtain ⟨lo, hi, hlo, hhi⟩ := exists_middles hperm hne
  obtain rfl : (lo + hi) / 2 = m := by simpa [median_eq_of_middles hperm hsorted hne hlo hhi] using hm
  have hle : lo ≤ hi := by
    obtain ⟨_, rfl⟩ := List.getElem?_eq_some_iff.mp hlo
    obtain ⟨_, rfl⟩ := List.getElem?_eq_some_iff.mp hhi
    exact hsorted.sortedLE.getElem_le_getElem_of_le (by omega)
  have hbelow := lt_countP_le_of_sorted hsorted hlo
  have habove := sub_le_countP_ge_of_sorted hsorted hhi
  rw [hperm.countP_eq] at hbelow habove
  rw [hperm.length_eq] at habove
  have hwidenBelow : l.countP (· ≤ lo) ≤ l.countP (· ≤ (lo + hi) / 2) :=
    List.countP_mono_left fun b _ hb => by simp only [decide_eq_true_eq] at hb ⊢; omega
  have hwidenAbove : l.countP (hi ≤ ·) ≤ l.countP ((lo + hi) / 2 ≤ ·) :=
    List.countP_mono_left fun b _ hb => by simp only [decide_eq_true_eq] at hb ⊢; omega
  omega

theorem median_between {l : List Int} {m : Int} (hm : median l = some m) : (∃ a ∈ l, a ≤ m) ∧ ∃ b ∈ l, m ≤ b := by
  have hne : l ≠ [] := by rintro rfl; simp at hm
  have hpos := List.length_pos_iff.mpr hne
  obtain ⟨hbelow, habove⟩ := half_le_countP_of_median hm
  have hsome : 0 < l.countP (· ≤ m) ∧ 0 < l.countP (m ≤ ·) := by omega
  simpa only [List.countP_pos_iff, decide_eq_true_eq] using hsome

/-- Of three readings or more at least two stand on each side of the median, so one stays when any single one is left out. -/
theorem median_cons_between_rest {l : List Int} {v m : Int} (hlen : 2 ≤ l.length) (hm : median (v :: l) = some m) :
    (∃ a ∈ l, a ≤ m) ∧ ∃ b ∈ l, m ≤ b := by
  obtain ⟨hbelow, habove⟩ := half_le_countP_of_median hm
  have hrest : ∀ p : Int → Bool, (v :: l).countP p ≤ l.countP p + 1 := fun p => by
    rw [List.countP_cons]
    split <;> omega
  have hbelowRest := hbelow.trans (hrest _)
  have haboveRest := habove.trans (hrest _)
  rw [List.length_cons] at hbelowRest haboveRest
  have hsome : 0 < l.countP (· ≤ m) ∧ 0 < l.countP (m ≤ ·) := by omega
  simpa only [List.countP_pos_iff, decide_eq_true_eq] using hsome

theorem median_mem_of_odd {l : List Int} {m : Int} (hm : median l = some m) (hodd : l.length % 2 = 1) : m ∈ l := by
  rw [median_of_odd (l.perm_insertionSort _) (l.pairwise_insertionSort (· ≤ ·)) hodd] at hm
  exact (List.mem_insertionSort _).mp (List.mem_of_getElem? hm)

/-! ### The consensus -/

theorem formConsensus_of_median {x : Ctx} {s : State} {m : Int} (hm : median (readings x s) = some m) :
    (formConsensus x s).tide.level = m ∧ (formConsensus x s).tide.valid = true := by
  simp [formConsensus, hm]

/-! ### The statement -/

/-- Settles O17: the median by the middle readings, its bounds by the number of readings on each side of it. -/
theorem medianIsTheMiddleReading : Obligations.MedianIsTheMiddleReading := by
  intro l
  refine ⟨median_eq_none_iff l, fun r hperm hsorted => ⟨median_of_odd hperm hsorted, fun heven a b ha hb hne => ?_⟩,
    fun m hm => ⟨(median_between hm).1, (median_between hm).2, median_mem_of_odd hm⟩,
    fun v m hlen hm => median_cons_between_rest hlen hm, fun a b => ⟨?_, ?_⟩, fun x s hl hne => ?_⟩
  · have hbelow : (l.length - 1) / 2 = l.length / 2 - 1 := by omega
    rw [Int.fdiv_eq_ediv_of_nonneg _ (by decide)]
    exact median_eq_of_middles hperm hsorted hne (hbelow ▸ ha) hb
  · rintro rfl
    exact median_singleton a
  · rintro rfl
    rw [Int.fdiv_eq_ediv_of_nonneg _ (by decide)]
    exact median_pair a b
  · obtain ⟨m, hm⟩ := Option.ne_none_iff_exists'.mp (mt (median_eq_none_iff l).mp hne)
    obtain ⟨hlevel, hvalid⟩ := formConsensus_of_median (hl ▸ hm)
    obtain ⟨⟨a, ha, ham⟩, b, hb, hmb⟩ := median_between hm
    rw [hlevel]
    exact ⟨hm, hvalid, fun hrange => ⟨(hrange a ha).1.trans ham, hmb.trans (hrange b hb).2⟩⟩

end Sys2Proof.Machine
end

section
/-! PROOF. The fouling index: what the head loss makes of F in each of its three ranges, what a pair with a computation answers, and the
statement about it. -/

namespace Sys2Proof.Machine

/-! ### F of a head loss (R57) -/

theorem foulingOfHead_of_le {d : Int} {reference : Nat} (blocked : Nat) (h : d ≤ reference) :
    foulingOfHead d reference blocked = 0 :=
  if_pos h

theorem foulingOfHead_of_blocked {d : Int} {reference blocked : Nat} (hblocked : 0 < blocked)
    (h : (blocked : Int) ≤ d - reference) : foulingOfHead d reference blocked = 100 := by
  have habove : ¬ d ≤ reference := by omega
  rw [foulingOfHead, if_neg habove, if_pos h]

/-- Above the reference head the product is not negative, so the model's truncation to a natural number drops nothing. -/
theorem foulingOfHead_of_between {d : Int} {reference blocked : Nat} (hlo : (reference : Int) < d)
    (hhi : d - reference < blocked) : (foulingOfHead d reference blocked : Int) = 100 * (d - reference) / blocked := by
  rw [foulingOfHead, if_neg (by omega), if_neg (by omega)]
  exact Int.toNat_of_nonneg (Int.ediv_nonneg (by omega) (by omega))

/-- A head loss short of the blocked head by 1 mm or more leaves the share short of 100. -/
theorem foulingOfHead_lt_of_between {d : Int} {reference blocked : Nat} (hlo : (reference : Int) < d)
    (hhi : d - reference < blocked) : foulingOfHead d reference blocked < 100 := by
  have hshare : 100 * (d - reference) / blocked < 100 := Int.ediv_lt_of_lt_mul (by omega) (by omega)
  have hvalue := foulingOfHead_of_between hlo hhi
  omega

theorem foulingOfHead_le {d : Int} {reference blocked : Nat} (hblocked : 0 < blocked) :
    foulingOfHead d reference blocked ≤ 100 := by
  obtain hle | hgt := le_or_gt d (reference : Int)
  · exact (foulingOfHead_of_le blocked hle).trans_le (Nat.zero_le _)
  · obtain hge | hlt := le_or_gt (blocked : Int) (d - reference)
    · exact (foulingOfHead_of_blocked hblocked hge).le
    · exact (foulingOfHead_lt_of_between hgt hlt).le

/-! ### A pair with a computation (R56) -/

theorem referenceHead_eq_ite (c : Settings) (running : Bool) :
    (referenceHead c running : Int) = if running then (c.headRunning : Int) else c.headStopped :=
  apply_ite Nat.cast _ _ _

/-- The last case of R56: both sensors GOOD, no SUSPECT with an invalid consensus, no settle hold. -/
theorem foulingAfterPair_of_computed (c : Settings) {s : State} (houter : s.front.outer.state = .good)
    (hinner : s.front.inner.state = .good) (hvalid : s.tide.suspect = true → s.tide.valid = true)
    (hsettle : s.fouling.settleTimer = none) :
    foulingAfterPair c s =
      (foulingOfHead (headLossOuter s - s.front.inner.level) (referenceHead c s.fouling.runningMark) c.headBlocked, false) := by
  have hgood : ¬ (s.front.outer.state ≠ .good || s.front.inner.state ≠ .good) = true := by simp [houter, hinner]
  have hlevel : ¬ (s.tide.suspect && !s.tide.valid) = true := by simpa using hvalid
  have hhold : ¬ s.fouling.settleTimer.isSome = true := by simp [hsettle]
  rw [foulingAfterPair, if_neg hgood, if_neg hlevel, if_neg hhold]

/-! ### The statement -/

/-- Settles O15: the pair computes F of the head loss, which falls in one of the three ranges of R57. -/
theorem foulingIndexOfTheHeadLoss : Obligations.FoulingIndexOfTheHeadLoss := by
  intro c s houter hinner hvalid hsettle hmin hmax lo D href f
  have hblocked : 0 < c.headBlocked := by omega
  have hhref : (referenceHead c s.fouling.runningMark : Int) = href := referenceHead_eq_ite c _
  have hf : f = foulingOfHead D (referenceHead c s.fouling.runningMark) c.headBlocked :=
    congrArg Prod.fst (foulingAfterPair_of_computed c houter hinner hvalid hsettle)
  rw [hf, ← hhref]
  refine ⟨foulingOfHead_of_le _, foulingOfHead_of_blocked hblocked, fun hgt hlt => ⟨?_, ?_, by omega, by omega, by omega⟩,
    foulingOfHead_le hblocked, fun _ _ _ _ => ⟨by omega, by omega⟩, fun hless hsuspect => ?_⟩
  · rw [Int.fdiv_eq_ediv_of_nonneg _ (by omega)]
    exact foulingOfHead_of_between hgt hlt
  · exact Nat.le_of_lt_succ (foulingOfHead_lt_of_between hgt hlt)
  · have hlo : lo = s.front.outer.level := if_neg (by simp [hsuspect])
    exact foulingOfHead_of_le _ (by omega)

end Sys2Proof.Machine
end

section
/-! PROOF. What a step can do, said once: the effect of each command on a station at work (`LiveStep`), on one at rest (`RestStep`), and
the rule that a law kept by both is kept by every step. -/

namespace Sys2Proof.Machine

/-! ### A command at work -/

/-- The effect of a command on a station at work: the clock has come to the target of an expiry, its timer, line and receiver have moved,
and the block's operation has run. -/
inductive LiveStep (x : Ctx) (s : State) : State → Prop
  | idle (now : Clock) (l : Lines) (r : Receiver) : l.run = s.lines.run →
      LiveStep x s { s with clock := now, lines := l, link := { s.link with receiver := r } }
  | sample (now : Clock) (d : Timer) (outer inner : Nat) :
      LiveStep x s (sampleStep x outer inner { s with clock := now, front := { s.front with sampleTimer := d } })
  | settle (now : Clock) : LiveStep x s { s with clock := now, fouling := { s.fouling with settleTimer := none } }
  | ageing (now : Clock) (d : Timer) : LiveStep x s (ageingStep x { s with clock := now, ageingTimer := d })
  | tide (now : Clock) (d : Timer) : LiveStep x s (tideStep x { s with clock := now, tide := { s.tide with timer := d } })
  | trend (now : Clock) (d : Timer) :
      LiveStep x s (trendStep x { s with clock := now, fouling := { s.fouling with trendTimer := d } })
  | range (now : Clock) (d : Timer) : LiveStep x s (changeList x (afterRangeExpiry x s.claims.entries)
      { s with clock := now, claims := { s.claims with rangeTimer := d } })
  | gap (now : Clock) :
      LiveStep x s (triggerCheck x .gapExpiry { s with clock := now, screen := { s.screen with gapTimer := none } })
  | interval (now : Clock) :
      LiveStep x s { s with clock := now, screen := { s.screen with intervalTimer := none, intervalDue := true } }
  | cycle (now d e : Clock) : s.screen.cycleTimer = some d →
      LiveStep x s (cycleStep x { s with clock := now, screen := { s.screen with cycleTimer := some e } })
  | shaft : LiveStep x s (shaftRises x s)
  | stall (now d : Clock) : s.screen.stallTimer = some d →
      LiveStep x s (stallRises x { s with clock := now, screen := { s.screen with stallTimer := none } })
  | headerOpens (l : Lines) : l.run = s.lines.run → s.screen.spray = true →
      LiveStep x s { s with lines := l, screen := { s.screen with headerTimer := ahead s (x.cfg.headerDelay * 1000) } }
  | headerCloses (l : Lines) : l.run = s.lines.run →
      LiveStep x s { s with lines := l, screen := { s.screen with headerTimer := none } }
  | header (now : Clock) : LiveStep x s (headerFails x { s with clock := now, screen := { s.screen with headerTimer := none } })
  | retry (now : Clock) :
      LiveStep x s (setCond x .washWaterFail false { s with clock := now, screen := { s.screen with retryTimer := none } })
  | duty (now : Clock) (d : Timer) : LiveStep x s (dutyStep x { s with clock := now, duty := { s.duty with timer := d } })
  | guardStops (now : Clock) : s.pump.state ≠ .startPending →
      LiveStep x s { s with clock := now, pump := { s.pump with guardTimer := none } }
  | guardWithdraws (now : Clock) : s.pump.state = .startPending →
      LiveStep x s (withdrawStart x .stagger { s with clock := now, pump := { s.pump with guardTimer := none } })
  | guardStarts (now : Clock) : s.pump.state = .startPending →
      LiveStep x s (enterStarting x { s with clock := now, pump := { s.pump with guardTimer := none } })
  | startTimeout (now : Clock) : s.pump.state = .starting →
      LiveStep x s (issuePulse x .stop (enterFailed x { s with clock := now }))
  | stopFails (now : Clock) : s.pump.state = .stopping → s.lines.run = true → LiveStep x s (enterFailed x { s with clock := now })
  | stopEnds (now : Clock) : s.pump.state = .stopping → s.lines.run = false → LiveStep x s (enterStopped x { s with clock := now })
  | pulseEnds (now : Clock) : LiveStep x s (cutPulse { s with clock := now })
  | stopPulseEnds (now : Clock) : s.pump.state = .stopping → s.lines.run = false →
      LiveStep x s (enterStopped x (cutPulse { s with clock := now }))
  | minRun (now : Clock) : LiveStep x s { s with clock := now, pump := { s.pump with minRunTimer := none } }
  | minStop (now : Clock) : LiveStep x s { s with clock := now, pump := { s.pump with minStopTimer := none } }
  | ringAge (now : Clock) : LiveStep x s (dropOldestStart { s with clock := now })
  | minute (now d e : Clock) : s.pump.minuteTimer = some d →
      LiveStep x s (addMinute { s with clock := now, pump := { s.pump with minuteTimer := some e, minuteAcc := 0 } })
  | runCloses : s.lines.run = false → LiveStep x s
      (runClosedInState x (noteCounted x (countedRunning s) { s with lines := { s.lines with run := true } }))
  | runOpens : s.lines.run = true → LiveStep x s
      (runOpenedInState x (noteCounted x (countedRunning s) { s with lines := { s.lines with run := false } }))
  | tripCloses (l : Lines) : l.run = s.lines.run → s.pump.state ≠ .locked → LiveStep x s (enterTripped x { s with lines := l })
  | tripFails (l : Lines) : l.run = s.lines.run → s.pump.state = .tripped → s.lines.run = true →
      LiveStep x s (enterFailed x { s with lines := l })
  | tripEnds (l : Lines) : l.run = s.lines.run → s.pump.state = .tripped → s.lines.run = false →
      LiveStep x s (enterStopped x { s with lines := l })
  | localCloses (l : Lines) : l.run = s.lines.run → LiveStep x s (enterLocked x { s with lines := l })
  | localOpens (l : Lines) : l.run = s.lines.run → s.pump.state = .locked → LiveStep x s (leaveLocked x { s with lines := l })
  | ack (l : Lines) : l.run = s.lines.run → LiveStep x s (acknowledge x { s with lines := l })
  | status (now : Clock) (d : Timer) :
      LiveStep x s (offerStatus x { s with clock := now, link := { s.link with statusTimer := d } })
  | attempt (h : InHand) : s.link.tx = .defer → s.link.inHand = some h → LiveStep x s { s with link := { s.link with
      tx := .send, accessTimer := none, receiver := .armed, inHand := some { h with bytes := ownFrameBytes x s h.frame } } }
  | completion (h : InHand) : s.link.tx = .send → s.link.inHand = some h → LiveStep x s
      (finishFrame x (tellCompletion x h.frame) { s with link := { s.link with receiver := .waitIdle } })
  | collision (r : Receiver) : s.link.tx = .send →
      LiveStep x s { s with link := { s.link with tx := .backoff, accessTimer := accessAhead x s, receiver := r } }
  | fail (now : Clock) : s.link.tx = .defer ∨ s.link.tx = .backoff → LiveStep x s (failAttempt x { s with clock := now })
  | statusFrame (b : Bay) (p : List Byte) : b ≠ x.bay → LiveStep x s
      (takeStatus x b p (returnToLinked x { s with link := { s.link with receiver := .waitIdle } }))
  | conflict : LiveStep x s (bayConflictFound x { s with link := { s.link with receiver := .waitIdle } })
  | claimFrame (b : Bay) (p : List Byte) : b ≠ x.bay → LiveStep x s
      (takeClaim x b p (returnToLinked x { s with link := { s.link with receiver := .waitIdle } }))
  | releaseFrame (b : Bay) (p : List Byte) : b ≠ x.bay → LiveStep x s
      (takeRelease x b p (returnToLinked x { s with link := { s.link with receiver := .waitIdle } }))
  | orderFrame (p : List Byte) : LiveStep x s
      (takeOrder x p (returnToLinked x { s with link := { s.link with receiver := .waitIdle } }))
  | record (now : Clock) (l : Loader) : l.phase = s.loader.phase → l.bay = s.loader.bay → l.cfg = s.loader.cfg →
      LiveStep x s { s with clock := now, loader := l }

theorem LiveStep.refl (x : Ctx) (s : State) : LiveStep x s s := .idle s.clock s.lines s.link.receiver rfl

/-- A line other than RUN, or the receiver, has moved. -/
theorem LiveStep.ofLines (x : Ctx) (s : State) {l : Lines} (h : l.run = s.lines.run) : LiveStep x s { s with lines := l } :=
  .idle s.clock l s.link.receiver h

theorem LiveStep.ofReceiver (x : Ctx) (s : State) (r : Receiver) :
    LiveStep x s { s with link := { s.link with receiver := r } } :=
  .idle s.clock s.lines r rfl

theorem LiveStep.ofLoader {x : Ctx} {s : State} {l : Loader} (hp : l.phase = s.loader.phase) (hb : l.bay = s.loader.bay)
    (hc : l.cfg = s.loader.cfg) : LiveStep x s { s with loader := l } :=
  .record s.clock l hp hb hc

/-- The expiry of a timer at work is a live step when its action at the target is one. -/
theorem LiveStep.ofExpiry {x : Ctx} {s : State} {t : Timer} {act : Clock → State → State}
    (h : ∀ d, t = some d → LiveStep x s (act d { s with clock := clockAtExpiry s.clock d })) : LiveStep x s (onExpiry t s act) := by
  rcases onExpiry_cases t s act with ⟨d, ht, he⟩ | ⟨-, he⟩
  · rw [he]; exact h d ht
  · rw [he]; exact .refl x s

/-- A frame of a live station is discarded with the receiver in WAIT IDLE, or handed on. -/
theorem LiveStep.ofFrame {x : Ctx} {s : State} (hx : ctx? s = some x) {kind : Byte} {f : Frame} {act : Ctx → State → State}
    (h : LiveStep x s (act x { s with link := { s.link with receiver := .waitIdle } })) :
    LiveStep x s (hearFrame kind f s act) := by
  have hw : ctx? { s with link := { s.link with receiver := .waitIdle } } = some x := hx
  unfold hearFrame
  split
  · exact .refl x s
  · dsimp only
    split
    · rwa [whenLive_of hw]
    · exact .ofReceiver x s _

theorem LiveStep.ofBay {x : Ctx} {s : State} {f : Frame} {own : State → State} {foreign : Bay → State → State}
    (ho : LiveStep x s (own { s with link := { s.link with receiver := .waitIdle } }))
    (hf : ∀ b, b ≠ x.bay → LiveStep x s (foreign b (returnToLinked x { s with link := { s.link with receiver := .waitIdle } }))) :
    LiveStep x s (fromBay x f own foreign { s with link := { s.link with receiver := .waitIdle } }) := by
  unfold fromBay
  split
  · split
    · exact ho
    next hb => exact hf _ hb
  · exact .ofReceiver x s _

theorem awaits_eq_false_of_ctx {s : State} {x : Ctx} (hx : ctx? s = some x) (r : Spi) : awaits r s = false := by
  obtain ⟨hp | hp, -⟩ := (ctx?_eq_some_iff s x).1 hx <;> simp [awaits, hp]

theorem inReset_of_ctx {s : State} {x : Ctx} (hx : ctx? s = some x) : s.inReset = false :=
  ((ctx?_eq_some_iff s x).1 hx).2.1

/-- The end of a write leaves the phase, the own bay and the settings. -/
theorem LiveStep.ofPollResult (x : Ctx) (status : Byte) (s : State) : LiveStep x s (pollResult status s) := by
  unfold pollResult endWrite
  dsimp only
  split_ifs <;> exact .ofLoader rfl rfl rfl

theorem live_of_exec_link {c : Instr} {s t : State} {x : Ctx} (hx : ctx? s = some x)
    (hc : c = .statusTimerExpiry ∨ c = .attemptBegin ∨ c = .transmitCompletion ∨ (∃ m g, c = .collision m g) ∨
      c = .backoffEnd ∨ c = .accessTimerExpiry)
    (h : exec c s = .next t) : LiveStep x s t := by
  rcases hc with rfl | rfl | rfl | ⟨m, g, rfl⟩ | rfl | rfl <;> obtain rfl := Host.Outcome.next.inj h <;> rw [whenLive_of hx]
  · exact .ofExpiry fun d _ => .status _ _
  · split
    next h ht hh => exact .attempt h ht hh
    next => exact .refl x s
  · split
    next h ht hh => exact .completion h ht hh
    next => exact .refl x s
  · split
    next h ht hh => exact .collision _ ht
    next => exact .refl x s
  · split
    next ht => exact .fail s.clock (.inr ht)
    next => exact .refl x s
  · split
    next ht => exact .ofExpiry fun d _ => .fail _ (by simpa using ht)
    next => exact .refl x s

theorem live_of_exec_contact {c : Instr} {s t : State} {x : Ctx} (hx : ctx? s = some x)
    (hc : c = .runCloses ∨ c = .runOpens ∨ c = .tripCloses ∨ c = .tripOpens ∨ c = .localCloses ∨ c = .localOpens ∨
      c = .ackRisingEdge ∨ c = .ackFallingEdge ∨ c = .headerOpens ∨ c = .headerCloses)
    (h : exec c s = .next t) : LiveStep x s t := by
  have hl (l : Lines) : ctx? { s with lines := l } = some x := hx
  rcases hc with rfl | rfl | rfl | rfl | rfl | rfl | rfl | rfl | rfl | rfl <;> obtain rfl := Host.Outcome.next.inj h
  · split
    · exact .refl x s
    next hr => dsimp only; rw [whenLive_of (hl _)]; exact .runCloses (by simpa using hr)
  · split
    next hr => dsimp only; rw [whenLive_of (hl _)]; exact .runOpens hr
    · exact .refl x s
  · split
    · exact .refl x s
    · rw [whenLive_of (hl _)]
      split
      · exact .ofLines x s rfl
      next hp => exact .tripCloses _ rfl hp
  · split
    · rw [whenLive_of (hl _)]
      split
      next hp =>
        split
        next hr => exact .tripFails _ rfl hp hr
        next hr => exact .tripEnds _ rfl hp (by simpa using hr)
      next => exact .ofLines x s rfl
    · exact .refl x s
  · split
    · exact .refl x s
    · rw [whenLive_of (hl _)]; exact .localCloses _ rfl
  · split
    · rw [whenLive_of (hl _)]
      split
      next hp => exact .localOpens _ rfl hp
      next => exact .ofLines x s rfl
    · exact .refl x s
  · split
    · exact .refl x s
    · rw [whenLive_of (hl _)]; exact .ack _ rfl
  · exact .ofLines x s rfl
  · split
    · rw [whenLive_of (hl _)]
      split
      next hs => exact .headerOpens _ rfl hs
      next => exact .ofLines x s rfl
    · exact .refl x s
  · split
    · exact .refl x s
    · rw [whenLive_of (hl _)]; exact .headerCloses _ rfl

/-- Every command but RESET is a live step of a station at work. -/
theorem live_of_exec {c : Instr} {s t : State} {x : Ctx} (hx : ctx? s = some x) (hc : c ≠ .reset) (h : exec c s = .next t) :
    LiveStep x s t := by
  cases c
  case reset => exact absurd rfl hc
  case statusTimerExpiry | attemptBegin | transmitCompletion | collision | backoffEnd | accessTimerExpiry =>
    exact live_of_exec_link hx (by simp) h
  case runCloses | runOpens | tripCloses | tripOpens | localCloses | localOpens | ackRisingEdge | ackFallingEdge | headerOpens |
      headerCloses =>
    exact live_of_exec_contact hx (by simp) h
  all_goals obtain rfl := Host.Outcome.next.inj h
  case resetEnd => rw [if_neg (by simp [inReset_of_ctx hx])]; exact .refl x s
  case configImageReadDone => rw [if_neg (by simp [awaits_eq_false_of_ctx hx])]; exact .refl x s
  case dutyRecordReadDone => rw [if_neg (by simp [awaits_eq_false_of_ctx hx])]; exact .refl x s
  case receiverArmed => split; exacts [.ofReceiver x s _, .refl x s]
  case frameAbandoned => exact .ofReceiver x s _
  case invalidFrame => exact .ofReceiver x s _
  case nonSyncCharacter => split; exacts [.ofReceiver x s _, .refl x s]
  case statusFrame => exact .ofFrame hx (.ofBay .conflict fun b hb => .statusFrame b _ hb)
  case claimFrame => exact .ofFrame hx (.ofBay (.ofReceiver x s _) fun b hb => .claimFrame b _ hb)
  case releaseFrame => exact .ofFrame hx (.ofBay (.ofReceiver x s _) fun b hb => .releaseFrame b _ hb)
  case orderFrame => exact .ofFrame hx (.orderFrame _)
  all_goals rw [whenLive_of hx]
  case sampleTimerExpiry => exact .ofExpiry fun d _ => .sample _ _ _ _
  case settleTimerExpiry => exact .ofExpiry fun d _ => .settle _
  case ageingTimerExpiry => exact .ofExpiry fun d _ => .ageing _ _
  case tideTimerExpiry => exact .ofExpiry fun d _ => .tide _ _
  case trendTimerExpiry => exact .ofExpiry fun d _ => .trend _ _
  case rangeTimerExpiry => exact .ofExpiry fun d _ => .range _ _
  case gapTimerExpiry => exact .ofExpiry fun d _ => .gap _
  case intervalTimerExpiry => exact .ofExpiry fun d _ => .interval _
  case cycleTimerExpiry => exact .ofExpiry fun d hd => .cycle _ d _ hd
  case shaftEdge => exact .shaft
  case stallTimerExpiry => exact .ofExpiry fun d hd => .stall _ d hd
  case headerTimerExpiry => exact .ofExpiry fun d _ => .header _
  case retryTimerExpiry => exact .ofExpiry fun d _ => .retry _
  case dutyTimerExpiry => exact .ofExpiry fun d _ => .duty _ _
  case guardTimerExpiry =>
    refine .ofExpiry fun d _ => ?_
    dsimp only
    split
    next hp =>
      split
      · exact .guardWithdraws _ hp
      · exact .guardStarts _ hp
    next hp => exact .guardStops _ hp
  case startTimeout =>
    split
    next hp => exact .ofExpiry fun d _ => .startTimeout _ hp
    next => exact .refl x s
  case stopTimeout =>
    split
    next hp =>
      refine .ofExpiry fun d _ => ?_
      dsimp only
      split
      next hr => exact .stopFails _ hp hr
      next hr => exact .stopEnds _ hp (by simpa using hr)
    next => exact .refl x s
  case pulseTimerExpiry =>
    refine .ofExpiry fun d _ => ?_
    dsimp only
    split
    next h =>
      obtain ⟨⟨hp, -⟩, hr⟩ : (s.pump.state = .stopping ∧ s.pump.pulse = some .stop) ∧ s.lines.run = false := by simpa using h
      exact .stopPulseEnds _ hp hr
    next => exact .pulseEnds _
  case minRunExpiry => exact .ofExpiry fun d _ => .minRun _
  case minStopExpiry => exact .ofExpiry fun d _ => .minStop _
  case startRingAgeExpiry => exact .ofExpiry fun d _ => .ringAge _
  case minuteTimerExpiry => exact .ofExpiry fun d hd => .minute _ d _ hd
  case writeEnableDone => split; exacts [.ofLoader rfl rfl rfl, .refl x s]
  case pageWriteDone => split; exacts [.ofLoader rfl rfl rfl, .refl x s]
  case pollTimerExpiry => exact .ofExpiry fun d _ => .record _ _ rfl rfl rfl
  case readStatusDone => split; exacts [.ofPollResult x _ s, .refl x s]

/-! ### A command at rest -/

/-- The effect of a command but RESET on a station before LISTENING entry or halted. -/
inductive RestStep (s : State) : State → Prop
  | idle (l : Lines) (r : Receiver) : RestStep s { s with lines := l, link := { s.link with receiver := r } }
  | straps (b : Bay) : s.inReset = true → RestStep s { s with
      inReset := false, loader := { s.loader with phase := .loading, bay := some b, spi := some imageRead } }
  | badStraps : s.inReset = true → RestStep s (enterHalted { s with inReset := false })
  | image (c : Settings) : s.inReset = false → s.loader.phase = .loading → settingsAllowed c = true → RestStep s { s with
      loader := { s.loader with cfg := some c, spi := some recordRead }, screen := { s.screen with working := c.routineSet } }
  | badImage : s.inReset = false → s.loader.phase = .loading → RestStep s (enterHalted s)
  | listening (x : Ctx) (record : List Byte) : s.inReset = false → s.loader.phase = .loading → s.loader.bay = some x.bay →
      s.loader.cfg = some x.cfg → RestStep s (enterListening x (adopt x.cfg (recordTaken record s)))

theorem RestStep.refl (s : State) : RestStep s s := .idle s.lines s.link.receiver

theorem RestStep.ofLines (s : State) (l : Lines) : RestStep s { s with lines := l } := .idle l s.link.receiver

theorem RestStep.ofReceiver (s : State) (r : Receiver) : RestStep s { s with link := { s.link with receiver := r } } :=
  .idle s.lines r

theorem awaits_eq_true_iff (r : Spi) (s : State) :
    awaits r s = true ↔ s.inReset = false ∧ s.loader.phase = .loading ∧ s.loader.spi = some r := by
  simp [awaits, and_assoc]

theorem readImage_eq_some_iff {p : List Byte} {c : Settings} : readImage p = some c ↔
    (p.length = 100 ∧ imageCrcAgrees p = true ∧ paddingZero p = true ∧ settingsAllowed (imageFields p) = true) ∧
      imageFields p = c := by
  simp [readImage, and_assoc]

theorem RestStep.ofFrame {s : State} (hx : ctx? s = none) {kind : Byte} {f : Frame} {act : Ctx → State → State} :
    RestStep s (hearFrame kind f s act) := by
  have hw : ctx? { s with link := { s.link with receiver := .waitIdle } } = none := hx
  unfold hearFrame
  split
  · exact .refl s
  · dsimp only
    split
    · rw [whenLive_none hw]; exact .ofReceiver s _
    · exact .ofReceiver s _

/-- Every command but RESET is a step of rest of a station that is not at work. -/
theorem rest_of_exec {c : Instr} {s t : State} (hx : ctx? s = none) (hc : c ≠ .reset) (h : exec c s = .next t) : RestStep s t := by
  have hl (l : Lines) : ctx? { s with lines := l } = none := hx
  cases c
  case reset => exact absurd rfl hc
  all_goals obtain rfl := Host.Outcome.next.inj h
  case resetEnd straps =>
    split
    next hr =>
      dsimp only
      split
      · exact .straps _ hr
      · exact .badStraps hr
    next => exact .refl s
  case configImageReadDone image =>
    split
    next ha =>
      obtain ⟨hr, hp, -⟩ := (awaits_eq_true_iff _ s).1 ha
      split
      next c hc =>
        obtain ⟨⟨-, -, -, hallowed⟩, rfl⟩ := readImage_eq_some_iff.1 hc
        exact .image _ hr hp hallowed
      next => exact .badImage hr hp
    next => exact .refl s
  case dutyRecordReadDone record =>
    split
    next ha =>
      obtain ⟨hr, hp, -⟩ := (awaits_eq_true_iff _ s).1 ha
      split
      next b c hb hc => exact .listening ⟨b, c⟩ record hr hp hb hc
      next => exact .refl s
    next => exact .refl s
  case headerOpens | runOpens | tripOpens | localOpens =>
    split
    · try dsimp only
      rw [whenLive_none (hl _)]; exact .ofLines s _
    · exact .refl s
  case headerCloses | runCloses | tripCloses | localCloses | ackRisingEdge =>
    split
    · exact .refl s
    · try dsimp only
      rw [whenLive_none (hl _)]; exact .ofLines s _
  case ackFallingEdge => exact .ofLines s _
  case receiverArmed | nonSyncCharacter => split; exacts [.ofReceiver s _, .refl s]
  case frameAbandoned | invalidFrame => exact .ofReceiver s _
  case statusFrame | claimFrame | releaseFrame | orderFrame => exact .ofFrame hx
  all_goals rw [whenLive_none hx]; exact .refl s

/-! ### A step -/

/-- What a step can be: an idle one, a RESET, or another command at work or at rest, on the queue's rest. -/
theorem step_cases {s t : State} (h : step s = .next t) :
    t = tick s ∨ ∃ rest, let u : State := { s with pending := rest }
      t = resetStation u ∨ (∃ x, ctx? u = some x ∧ LiveStep x u t) ∨ (ctx? u = none ∧ RestStep u t) := by
  unfold step at h
  split at h
  · exact .inl (Host.Outcome.next.inj h).symm
  next c rest _ =>
    refine .inr ⟨rest, ?_⟩
    by_cases hc : c = .reset
    · subst hc
      exact .inl (Host.Outcome.next.inj h).symm
    · cases hx : ctx? { s with pending := rest } with
      | some x => exact .inr (.inl ⟨x, hx, live_of_exec hx hc h⟩)
      | none => exact .inr (.inr ⟨hx, rest_of_exec hx hc h⟩)

/-- A law that an idle step and the choice of a rest of the queue keep, that holds after a RESET, and that steps at work and at rest
keep, is kept by every step. -/
theorem step_keeps {P : State → Prop} (pending : ∀ s q, P s → P { s with pending := q })
    (clock : ∀ s c, P s → P { s with clock := c }) (reset : ∀ s, P (resetStation s))
    (live : ∀ x s t, P s → ctx? s = some x → LiveStep x s t → P t)
    (rest : ∀ s t, P s → ctx? s = none → RestStep s t → P t) {s t : State} (hs : P s) (h : step s = .next t) : P t := by
  obtain rfl | ⟨q, rfl | ⟨x, hx, hl⟩ | ⟨hx, hr⟩⟩ := step_cases h
  · unfold tick
    split
    · exact hs
    · exact clock _ _ hs
  · exact reset _
  · exact live x _ t (pending s q hs) hx hl
  · exact rest _ t (pending s q hs) hx hr

end Sys2Proof.Machine
end

section
/-! PROOF. What a step leaves of the phase, the own bay and the settings. -/

namespace Sys2Proof.Machine

set_option Elab.async false

/-! ### The phase, the own bay and the settings -/

@[simp] theorem finishFrame_frame (x : Ctx) (tell : State → State) (s : State) :
    let u := tell { s with link := { s.link with inHand := none, accessTimer := none } }
    (finishFrame x tell s).pending = u.pending ∧ (finishFrame x tell s).choices = u.choices ∧
    (finishFrame x tell s).inReset = u.inReset ∧ (finishFrame x tell s).clock = u.clock ∧
    (finishFrame x tell s).lines = u.lines ∧ (finishFrame x tell s).front = u.front ∧
    (finishFrame x tell s).peers = u.peers ∧ (finishFrame x tell s).ageingTimer = u.ageingTimer ∧
    (finishFrame x tell s).order = u.order ∧ (finishFrame x tell s).ladder = u.ladder ∧
    (finishFrame x tell s).tide = u.tide ∧ (finishFrame x tell s).fouling = u.fouling ∧
    (finishFrame x tell s).claims = u.claims ∧ (finishFrame x tell s).screen = u.screen ∧
    (finishFrame x tell s).duty = u.duty ∧ (finishFrame x tell s).pump = u.pump ∧
    (finishFrame x tell s).conds = u.conds ∧ (finishFrame x tell s).alarms = u.alarms ∧
    (finishFrame x tell s).loader = u.loader := by
  simp [finishFrame]

theorem countWindow_base (x : Ctx) (s : State) :
    (countWindow x s).inReset = s.inReset ∧ (countWindow x s).loader.bay = s.loader.bay ∧
    (countWindow x s).loader.cfg = s.loader.cfg ∧
    ((countWindow x s).loader.phase = s.loader.phase ∨
      s.loader.phase = .listening ∧ (countWindow x s).loader.phase = .operating) := by
  unfold countWindow
  split
  next h =>
    dsimp only
    split
    · unfold endListening
      split <;> simp [h, enterOperating, adoptHours]
    · simp
  next => simp

theorem ageingStep_base (x : Ctx) (s : State) :
    (ageingStep x s).inReset = s.inReset ∧ (ageingStep x s).loader.bay = s.loader.bay ∧
    (ageingStep x s).loader.cfg = s.loader.cfg ∧
    ((ageingStep x s).loader.phase = s.loader.phase ∨
      s.loader.phase = .listening ∧ (ageingStep x s).loader.phase = .operating) := by
  unfold ageingStep
  simpa using countWindow_base x (ageLadder x (ageOrder x (ageEntries x s)))

theorem LiveStep.base {x : Ctx} {s t : State} (h : LiveStep x s t) :
    t.inReset = s.inReset ∧ t.loader.bay = s.loader.bay ∧ t.loader.cfg = s.loader.cfg ∧
    (t.loader.phase = s.loader.phase ∨ s.loader.phase = .listening ∧ t.loader.phase = .operating) := by
  cases h
  case ageing now d => exact ageingStep_base x _
  case record hp hb hc => simp [hp, hb, hc]
  all_goals simp

/-- A step of a station at work leaves it at work, with the same bay and settings. -/
theorem LiveStep.ctx {x : Ctx} {s t : State} (hx : ctx? s = some x) (h : LiveStep x s t) : ctx? t = some x := by
  obtain ⟨hr, hb, hc, hp⟩ := h.base
  rw [ctx?_eq_some_iff] at hx ⊢
  rw [hr, hb, hc]
  obtain ⟨hphase, hrest⟩ := hx
  refine ⟨?_, hrest⟩
  rcases hp with hp | ⟨-, hp⟩
  · rwa [hp]
  · exact .inr hp

theorem not_atRest_of_ctx {s : State} {x : Ctx} (hx : ctx? s = some x) : ¬atRest s := by
  obtain ⟨hp | hp, -⟩ := (ctx?_eq_some_iff s x).1 hx <;> simp [atRest, hp]

theorem resetLoads_of_ctx {s : State} {x : Ctx} (hx : ctx? s = some x) : ResetLoads s := fun hr => by
  simp [inReset_of_ctx hx] at hr

/-- Every rule of a law on a station at rest holds of one at work, and every rule on a station at work need be shown of one context. -/
theorem forall_ctx {s : State} {x : Ctx} (hx : ctx? s = some x) {P : Ctx → Prop} (h : P x) : ∀ y, ctx? s = some y → P y :=
  fun y hy => by obtain rfl : x = y := Option.some.inj (hx.symm.trans hy); exact h

/-! ### LISTENING entry -/

@[simp] theorem recordTaken_frame (r : List Byte) (s : State) :
    (recordTaken r s).pending = s.pending ∧ (recordTaken r s).choices = s.choices ∧ (recordTaken r s).inReset = s.inReset ∧
    (recordTaken r s).clock = s.clock ∧ (recordTaken r s).lines = s.lines ∧ (recordTaken r s).front = s.front ∧
    (recordTaken r s).peers = s.peers ∧ (recordTaken r s).ageingTimer = s.ageingTimer ∧ (recordTaken r s).order = s.order ∧
    (recordTaken r s).ladder = s.ladder ∧ (recordTaken r s).tide = s.tide ∧ (recordTaken r s).fouling = s.fouling ∧
    (recordTaken r s).claims = s.claims ∧ (recordTaken r s).screen = s.screen ∧ (recordTaken r s).duty = s.duty ∧
    (recordTaken r s).conds = s.conds ∧ (recordTaken r s).alarms = s.alarms ∧ (recordTaken r s).link = s.link ∧
    (recordTaken r s).loader = { s.loader with mark := if (readRecord r).isSome then .good else .lost } ∧
    (recordTaken r s).pump = { s.pump with runMinutes := (readRecord r).getD s.pump.runMinutes } := by
  unfold recordTaken
  split
  next n h => simp [h]
  next h => simp [h]

/-- The parts of the state after LISTENING entry, but for the alarm entries, the screen and the link interface. -/
@[simp] theorem enterListening_frame (x : Ctx) (s : State) :
    (enterListening x s).pending = s.pending ∧ (enterListening x s).choices = s.choices ∧
    (enterListening x s).inReset = s.inReset ∧ (enterListening x s).clock = s.clock ∧ (enterListening x s).lines = s.lines ∧
    (enterListening x s).front = { s.front with sampleTimer := some s.clock } ∧
    (enterListening x s).peers = s.peers.set x.bay { s.peers[x.bay] with presence := .present, age := 0 } ∧
    (enterListening x s).ageingTimer = ahead s (statusPeriodMs x.cfg) ∧ (enterListening x s).order = s.order ∧
    (enterListening x s).ladder = s.ladder ∧
    (enterListening x s).tide = { s.tide with timer := ahead s (x.cfg.tideInterval * 1000) } ∧
    (enterListening x s).fouling = { s.fouling with
      runningMark := countedRunning s,
      trendTimer := if 1 ≤ x.cfg.swarmCount then ahead s (x.cfg.trendInterval * 60000) else none } ∧
    (enterListening x s).claims = { s.claims with rangeTimer := ahead s 100 } ∧
    (enterListening x s).duty = { s.duty with timer := ahead s (x.cfg.dutyInterval * 1000) } ∧
    (enterListening x s).pump = { s.pump with
      minuteTimer := if countedRunning s then ahead s (60000 - s.pump.minuteAcc) else s.pump.minuteTimer } ∧
    (enterListening x s).conds = s.conds ∧
    (enterListening x s).loader = { s.loader with phase := .listening, spi := none } := by
  unfold enterListening
  dsimp only
  simp only [countedRunning]
  by_cases hc : countsRunning s.pump.state s.lines.run = true <;> by_cases ht : s.conds.pumpTrip = true <;>
    simp [startLink, startTimers, ownEntryPresent, ahead, countedRunning, hc, ht]

/-- The transmitter leaves MUTE with the STATUS in hand, the queue being empty. -/
theorem enterListening_link {x : Ctx} {s : State} (hm : s.link.tx = .mute) (hq : s.link.queue = []) :
    (enterListening x s).link = { s.link with
      tx := .defer, inHand := some ⟨.status, 1, []⟩, queue := [], accessTimer := ahead s (accessLimitMs x.cfg),
      statusTimer := ahead s (statusPeriodMs x.cfg) } := by
  unfold enterListening startLink
  dsimp only
  rw [offerStatus, offer_idle rfl]
  · by_cases hc : countsRunning s.pump.state s.lines.run = true <;> by_cases ht : s.conds.pumpTrip = true <;>
      simp [startTimers, ownEntryPresent, countedRunning, hc, ht, accessAhead, ahead, annunciate_mute, hm]
  · by_cases hc : countsRunning s.pump.state s.lines.run = true <;> by_cases ht : s.conds.pumpTrip = true <;>
      simp [startTimers, ownEntryPresent, countedRunning, hc, ht, annunciate_mute, hm, hq]

/-! ### Laws at rest -/

/-- A law is kept at rest when the line and the receiver, the loader's moves within LOADING and to HALTED, and LISTENING entry keep it. -/
theorem RestStep.keeps {P : State → Prop} (loads : ∀ s, P s → ResetLoads s)
    (idle : ∀ s l r, P s → ctx? s = none → P { s with lines := l, link := { s.link with receiver := r } })
    (load : ∀ (s : State) (r : Bool) (l : Loader) (w : WashSet), P s → atRest s → (l.phase = .loading ∨ l.phase = .halted) →
      (r = true → l.phase = .loading) → (∀ c, l.cfg = some c → s.loader.cfg = some c ∨ settingsAllowed c = true) →
      P { s with inReset := r, loader := l, screen := { s.screen with working := w } })
    (listen : ∀ (s : State) (x : Ctx) (record : List Byte), P s → atRest s → s.loader.cfg = some x.cfg →
      ctx? (enterListening x (adopt x.cfg (recordTaken record s))) = some x →
      P (enterListening x (adopt x.cfg (recordTaken record s))))
    {s t : State} (hs : P s) (hx : ctx? s = none) (h : RestStep s t) : P t := by
  cases h with
  | idle l r => exact idle s l r hs hx
  | straps b hr => exact load s false _ s.screen.working hs (.inl (loads s hs hr)) (.inl rfl) (by simp) fun c hc => .inl hc
  | badStraps hr => exact load s false _ s.screen.working hs (.inl (loads s hs hr)) (.inr rfl) (by simp) fun c hc => .inl hc
  | image c hr hp hallowed =>
    refine load s s.inReset _ c.routineSet hs (.inl hp) (.inl hp) (fun _ => hp) fun d hd => .inr ?_
    obtain rfl := Option.some.inj hd
    exact hallowed
  | badImage hr hp =>
    exact load s s.inReset _ s.screen.working hs (.inl hp) (.inr rfl) (by simp [hr]) fun c hc => .inl hc
  | listening x record hr hp hb hc =>
    refine listen s x record hs (.inl hp) hc ?_
    rw [ctx?_eq_some_iff]
    simp [adopt, hr, hb, hc]

/-- A state at rest has no context. -/
theorem ctx?_of_rest {s : State} (h : s.loader.phase = .loading ∨ s.loader.phase = .halted) : ctx? s = none := by
  rcases h with h | h <;> simp [ctx?, h]

theorem RestStep.resetLoads {s t : State} (hs : ResetLoads s) (hx : ctx? s = none) (h : RestStep s t) : ResetLoads t :=
  h.keeps (fun _ => id) (fun _ _ _ hs _ => hs) (fun _ _ _ _ _ _ _ hr _ => hr) (fun _ _ _ _ _ _ hx => resetLoads_of_ctx hx) hs hx

end Sys2Proof.Machine
end

section
/-! PROOF. What the blocks tell the annunciator and the link interface: every operation at work moves the conditions, the alarm entries
and the transmit queue by judged conditions, acknowledges, offers and cancelled CLAIMs alone (`Told`). -/

namespace Sys2Proof.Machine

set_option Elab.async false

/-- From the first state to the second the conditions have moved by judgement (BAY CONFLICT not among them), the alarm entries with them
or by an acknowledge, and the transmit queue by offers and cancelled entries; of STATUS alone, and none cancelled, where `w` is false. -/
inductive Told (x : Ctx) (w : Bool) : State → State → Prop
  | quiet {s t : State} : t.conds = s.conds → t.alarms = s.alarms → t.link.tx = s.link.tx → t.link.inHand = s.link.inHand →
      t.link.queue = s.link.queue → t.link.accessTimer = s.link.accessTimer → Told x w s t
  | offer (f : TxFrame) (s : State) : (w = true ∨ f = .status) → Told x w s (offer x f s)
  | cond (a : Alarm) (v : Bool) (s : State) : a ≠ .bayConflict → Told x w s (setCond x a v s)
  | acked (s : State) : Told x w s { s with alarms := ackedEntries x.cfg s.alarms }
  | cancel (p : TxFrame → Bool) (s : State) : w = true → Told x w s { s with link := { s.link with queue := s.link.queue.filter p } }
  | trans {s t u : State} : Told x w s t → Told x w t u → Told x w s u

namespace Told

variable {x : Ctx} {w : Bool} {s t u : State}

/-- Nothing of the three has moved. -/
theorem of_eq (h1 : t.conds = s.conds := by simp) (h2 : t.alarms = s.alarms := by simp) (h3 : t.link = s.link := by simp) :
    Told x w s t :=
  .quiet h1 h2 (by rw [h3]) (by rw [h3]) (by rw [h3]) (by rw [h3])

theorem refl (s : State) : Told x w s s := .of_eq

/-- What comes before may be quiet. -/
theorem after (h : Told x w t u) (h1 : t.conds = s.conds := by simp) (h2 : t.alarms = s.alarms := by simp)
    (h3 : t.link = s.link := by simp) : Told x w s u :=
  .trans (.of_eq h1 h2 h3) h

/-- What comes after may be quiet. -/
theorem before (h : Told x w s t) (h1 : u.conds = t.conds := by simp) (h2 : u.alarms = t.alarms := by simp)
    (h3 : u.link = t.link := by simp) : Told x w s u :=
  .trans h (.of_eq h1 h2 h3)

theorem offerStatus (s : State) : Told x w s (offerStatus x s) := .offer .status s (.inr rfl)

/-- A choice between two operations tells what the one taken tells. -/
theorem ite {c : Prop} [Decidable c] (h1 : c → Told x w s t) (h2 : ¬c → Told x w s u) : Told x w s (if c then t else u) := by
  split
  next h => exact h1 h
  next h => exact h2 h

theorem eitherOrder {first second : State → State} (h1 : ∀ s, Told x w s (first s)) (h2 : ∀ s, Told x w s (second s)) (s : State) :
    Told x w s (eitherOrder first second s) := by
  have hc : Told x w s { s with choices := s.choices + 1 } := .of_eq
  rcases eitherOrder_cases first second s with h | h <;> rw [h]
  · exact .trans hc (.trans (h1 _) (h2 _))
  · exact .trans hc (.trans (h2 _) (h1 _))

theorem foldl {α : Type} {g : State → α → State} (h : ∀ s a, Told x w s (g s a)) (l : List α) (s : State) :
    Told x w s (l.foldl g s) := by
  induction l generalizing s with
  | nil => exact .refl s
  | cons a l ih => exact .trans (h s a) (ih _)

end Told

section
variable (x : Ctx) {w : Bool} (s : State)

/-! ### The screen controller -/

theorem setWash_told (v : WashState) : Told x w s (setWash x v s) :=
  .ite (fun _ => .refl s) fun _ => .after (.offerStatus _)

theorem releaseClaim_told : Told x true s (releaseClaim x s) :=
  .after (.trans (.offer _ (stopWashing s) (.inl rfl)) (setWash_told x _ _))

theorem continueWash_told : Told x true s (continueWash x s) :=
  .ite (fun _ => releaseClaim_told x s) fun _ => .of_eq

theorem enterWashing_told : Told x true s (enterWashing x s) :=
  .trans (.before (setWash_told x s .washing)) (continueWash_told x _)

theorem yieldWash_told : Told x w s (yieldWash x s) := .after (setWash_told x (stopWashing s) _)

theorem handStanding_told (st : Standing) : Told x true s (handStanding x st s) := by
  unfold handStanding
  split
  · exact enterWashing_told x s
  · exact setWash_told x s _
  · exact enterWashing_told x s
  · exact yieldWash_told x s
  · exact enterWashing_told x s
  · exact .refl s

theorem washEnd_told : Told x w s (washEnd x s) :=
  .ite (fun _ => .after (setWash_told x _ _)) fun _ => .refl s

theorem claimDropped_told : Told x w s (claimDropped x s) := .ite (fun _ => setWash_told x s _) fun _ => .refl s

theorem abortWash_told : Told x true s (abortWash x s) := by
  unfold abortWash
  split
  · exact .refl s
  · exact .refl s
  · exact .ite (fun _ => .trans (.cancel _ s rfl) (setWash_told x _ _)) fun _ => releaseClaim_told x s
  all_goals exact releaseClaim_told x s

theorem conflictAtScreen_told : Told x w s (conflictAtScreen x s) := by
  refine .after (t := stopWashing s) (.trans (setWash_told x _ .idle) ?_)
  exact .of_eq (by simp [conflictAtScreen]) (by simp [conflictAtScreen]) (by simp [conflictAtScreen])

theorem makeClaim_told (k : ClaimClass) : Told x true s (makeClaim x k s) := by
  refine .trans ?_ (setWash_told x _ .claiming)
  exact .after (.offer _ _ (.inl rfl))

theorem triggerCheck_told (e : TriggerEvent) : Told x true s (triggerCheck x e s) := by
  unfold triggerCheck
  split
  · split
    · exact makeClaim_told x s _
    · exact .refl s
  · exact .refl s

theorem ackAtScreen_told : Told x w s (ackAtScreen x s) :=
  .ite (fun _ => .before (.cond .screenStall false s (by decide))) fun _ => .refl s

theorem headerFails_told : Told x true s (headerFails x s) := by
  unfold headerFails
  exact .trans (.before (abortWash_told x s)) (.cond .washWaterFail _ _ (by decide))

theorem cycleEnd_told : Told x true s (cycleEnd x s) := .after (continueWash_told x _)

theorem cycleStep_told : Told x true s (cycleStep x s) := by
  unfold cycleStep
  dsimp only
  split_ifs
  · exact .after (cycleEnd_told x _)
  · exact .of_eq
  · exact .after (cycleEnd_told x _)
  · exact .of_eq

/-! ### The claim list -/

theorem changeList_told (l : List Claim) : Told x true s (changeList x l s) :=
  .ite (fun _ => .of_eq) fun _ => .after (handStanding_told x _ _)

theorem insertClaim_told (b : Bay) (tag : Nat) (k : ClaimClass) (d : Nat) : Told x true s (insertClaim x b tag k d s) :=
  changeList_told x s _

theorem removeClaim_told (b : Bay) : Told x true s (removeClaim x b s) := .ite (fun _ => changeList_told x s _) fun _ => .refl s

theorem removeReleased_told (b : Bay) (tag : Nat) : Told x true s (removeReleased x b tag s) :=
  .ite (fun _ => removeClaim_told x s b) fun _ => .refl s

theorem stripForeign_told : Told x true s (stripForeign x s) := changeList_told x s _

theorem repairFromStatus_told (b : Bay) (r : Report) : Told x true s (repairFromStatus x b r s) := by
  unfold repairFromStatus
  split
  · exact removeClaim_told x s b
  · exact .refl s
  · exact .refl s
  all_goals exact .ite (fun _ => .refl s) fun _ => insertClaim_told x s b _ _ _

/-! ### The pump controller -/

theorem setPump_told (p : PumpState) : Told x w s (setPump x p s) := by
  refine .ite (fun _ => .refl s) fun _ => .trans (.trans ?_ (.cond .pumpTrip _ _ (by decide))) (.cond .pumpFail _ _ (by decide))
  exact .before (.after (.offerStatus { s with pump := { s.pump with state := p } }))

theorem enterStopped_told : Told x w s (enterStopped x s) := .after (setPump_told x _ _)
theorem enterStopping_told : Told x w s (enterStopping x s) := .after (setPump_told x _ _)
theorem enterFailed_told : Told x w s (enterFailed x s) := .after (setPump_told x _ _)
theorem enterTripped_told : Told x w s (enterTripped x s) := .after (setPump_told x _ _)
theorem enterLocked_told : Told x w s (enterLocked x s) := .after (setPump_told x _ _)
theorem withdrawStart_told (c : Cause) : Told x w s (withdrawStart x c s) := .after (setPump_told x _ _)

theorem protectOnEntry_told : Told x w s (protectOnEntry x s) := .ite (fun _ => enterStopping_told x s) fun _ => .refl s

theorem takeOverRunning_told : Told x w s (takeOverRunning x s) :=
  .trans (.after (setPump_told x _ _)) (protectOnEntry_told x _)
theorem enterRunning_told : Told x w s (enterRunning x s) :=
  .trans (.after (setPump_told x _ _)) (protectOnEntry_told x _)
theorem enterStarting_told : Told x w s (enterStarting x s) :=
  .trans (.after (setPump_told x _ _)) (protectOnEntry_told x _)

theorem checkPending_told : Told x w s (checkPending x s) := by
  unfold checkPending
  split
  · split
    · exact withdrawStart_told x s _
    · exact .refl s
  · exact .refl s

theorem protectiveStop_told (c : Cause) : Told x w s (protectiveStop x c s) := by
  unfold protectiveStop
  split
  · exact enterStopping_told x s
  · exact enterStopping_told x s
  · exact withdrawStart_told x s c
  all_goals exact .refl s

theorem comparePeer_told (b : Bay) (r : Report) : Told x w s (comparePeer x b r s) := by
  unfold comparePeer
  split
  · split
    · exact withdrawStart_told x s _
    · exact .ite (fun _ => withdrawStart_told x s _) fun _ => .refl s
    · exact .refl s
  · exact .refl s

theorem comparePeers_told : Told x w s (comparePeers x s) :=
  .foldl (fun t b => by split; exacts [comparePeer_told x t b _, .refl t]) _ s

theorem takeStartWish_told : Told x w s (takeStartWish x s) :=
  .ite (fun _ => .trans (.after (setPump_told x _ _)) (comparePeers_told x _)) fun _ => .refl s

theorem takeStopWish_told : Told x w s (takeStopWish x s) := .ite (fun _ => enterStopping_told x s) fun _ => .refl s

theorem ackAtPump_told : Told x w s (ackAtPump x s) :=
  .ite (fun _ => .ite (fun _ => takeOverRunning_told x s) fun _ => enterStopped_told x s) fun _ => .refl s

theorem isolatedAtPump_told : Told x w s (isolatedAtPump x s) := .ite (fun _ => withdrawStart_told x s _) fun _ => .refl s

theorem conflictAtPump_told : Told x w s (conflictAtPump x s) :=
  .trans (.ite (fun _ => .of_eq) fun _ => .refl s) (checkPending_told x _)

theorem runClosedInState_told : Told x w s (runClosedInState x s) := by
  unfold runClosedInState
  split
  · exact enterFailed_told x s
  · exact enterFailed_told x s
  · exact enterRunning_told x s
  all_goals exact .refl s

theorem runOpenedInState_told : Told x w s (runOpenedInState x s) := by
  unfold runOpenedInState
  split
  · exact enterFailed_told x s
  · exact .ite (fun _ => .refl s) fun _ => enterStopped_told x s
  all_goals exact .refl s

theorem leaveLocked_told : Told x w s (leaveLocked x s) :=
  .ite (fun _ => enterTripped_told x s) fun _ => .ite (fun _ => takeOverRunning_told x s) fun _ => enterStopped_told x s

theorem handWish_told : Told x w s (handWish x s) := by
  unfold handWish
  split
  · split
    · exact .of_eq
    · exact takeStartWish_told x s
  · exact .ite (fun _ => takeStopWish_told x s) fun _ => .refl s
  all_goals exact .refl s

theorem dutyStep_told : Told x w s (dutyStep x s) := .after (handWish_told x _)

/-! ### The fouling monitor, the front end and the tide monitor -/

theorem blockedChanged_told (v : Bool) : Told x w s (blockedChanged x v s) :=
  .trans (.cond .screenBlocked v s (by decide)) (.ite (fun _ => protectiveStop_told x _ _) fun _ => .refl _)

theorem foulingUpdate_told : Told x true s (foulingUpdate x s) := by
  refine .ite (fun _ => ?_) fun _ => ?_
  · exact .after (triggerCheck_told x _ _)
  · exact .after (.eitherOrder (fun t => triggerCheck_told x t _) (fun t => blockedChanged_told x t _) _)

theorem swarmChanged_told : Told x true s (swarmChanged x s) :=
  .trans (.ite (fun _ => .after (triggerCheck_told x (selectDrive x s) _))
    fun _ => .of_eq) (.offerStatus _)

theorem trendStep_told : Told x true s (trendStep x s) :=
  .ite (fun _ => .of_eq) fun _ => .after (swarmChanged_told x _)

theorem suctionChanged_told (v : Bool) : Told x w s (suctionChanged x v s) :=
  .trans (.cond .suctionLow v s (by decide)) (.ite (fun _ => protectiveStop_told x _ _) fun _ => .refl _)

theorem deliverPair_told : Told x true s (deliverPair x s) :=
  .ite (fun _ => foulingUpdate_told x s) fun _ => .eitherOrder (foulingUpdate_told x) (fun t => suctionChanged_told x t _) s

theorem sampleStep_told (o i : Nat) : Told x true s (sampleStep x o i s) :=
  .trans (.trans (.trans (.after (.cond .innerSensor _ _ (by decide))) (.cond .outerSensor _ _ (by decide)))
    (checkPending_told x _)) (deliverPair_told x _)

theorem handTideConditions_told (v : TideVerdict) : Told x w s (handTideConditions x v s) :=
  .trans (.trans (.trans (.trans (.trans (.cond .lowLow _ s (by decide)) (.cond .low _ _ (by decide)))
    (.cond .high _ _ (by decide))) (.cond .highHigh _ _ (by decide))) (.cond .surge _ _ (by decide)))
    (.cond .levelUnknown _ _ (by decide))

theorem tideStep_told : Told x w s (tideStep x s) := by
  unfold tideStep
  extract_lets t r u v d
  have hu : Told x w s u := .after (handTideConditions_told x { t with tide := r.2 } r.1) (by simp [t]) (by simp [t]) (by simp [t])
  have hw : Told x w u v := .ite (fun _ => .refl u) fun _ => .cond .outerSensor _ u (by decide)
  have hd : Told x w v d := .ite (fun _ => .refl v) fun _ => .of_eq
  exact hu.trans (hw.trans (hd.trans (.ite (fun _ => .refl d) fun _ => .offerStatus d)))

/-! ### The annunciator -/

theorem ackEntries_told : Told x w s (ackEntries x s) :=
  .ite (fun _ => .refl s) fun _ => .trans (.acked s) (.offerStatus _)

theorem acknowledge_told : Told x w s (acknowledge x s) := by
  unfold acknowledge
  exact .trans (ackEntries_told x s) (.trans (ackAtPump_told x _) (.trans (ackAtScreen_told x _)
    (.cond .dutyRecordLost false _ (by decide))))

/-! ### The peer table and the ladder -/

theorem isolateWash_told : Told x true s (isolateWash x s) :=
  .ite (fun _ => .eitherOrder (stripForeign_told x) (abortWash_told x) s) fun _ => stripForeign_told x s

theorem setStage_told (st : Stage) : Told x true s (setStage x st s) :=
  .ite (fun _ => .refl s) fun _ => .trans (.trans (.after (.offerStatus _))
    (.ite (fun _ => .trans (isolateWash_told x _) (isolatedAtPump_told x _)) fun _ => .refl _)) (.cond _ _ _ (by decide))

theorem returnToLinked_told : Told x true s (returnToLinked x s) := .after (setStage_told x _ _)

theorem ageLadder_told : Told x true s (ageLadder x s) := .after (setStage_told x _ _)

theorem fallSilent_told (b : Bay) : Told x true s (fallSilent x b s) := by
  refine .trans (t := removeClaim x b { s with peers := s.peers.set b { s.peers[b] with presence := .silent } }) ?_ ?_
  · exact .after (removeClaim_told x _ b)
  · exact .of_eq (h3 := rfl)

theorem ageEntry_told (b : Bay) : Told x true s (ageEntry x s b) :=
  .ite (fun _ => .refl s) fun _ => .ite (fun _ => .after (fallSilent_told x _ b)) fun _ => .of_eq

theorem ageEntries_told : Told x true s (ageEntries x s) := .foldl (fun t b => ageEntry_told x t b) _ s

theorem enterOperating_told : Told x w s (enterOperating x s) := by
  unfold enterOperating
  exact .before (.after (.offerStatus { s with loader := { s.loader with phase := .operating } }))

theorem endListening_told : Told x w s (endListening x s) := by
  refine .ite (fun _ => ?_) fun _ => enterOperating_told x s
  exact .trans (.after (enterOperating_told x (adoptHours x s)) (by simp [adoptHours]) (by simp [adoptHours])
    (by simp [adoptHours])) (.cond .dutyRecordLost true _ (by decide))

theorem countWindow_told : Told x w s (countWindow x s) :=
  .ite (fun _ => .ite (fun _ => .after (endListening_told x _)) fun _ => .of_eq) fun _ => .refl s

theorem ageingStep_told : Told x true s (ageingStep x s) := by
  unfold ageingStep
  exact .trans (ageEntries_told x s) (.trans (.after (t := ageOrder x (ageEntries x s)) (ageLadder_told x _))
    (countWindow_told x _))

theorem restartRemovals_told (b : Bay) (r : Report) : Told x true s (restartRemovals x b r s) :=
  .ite (fun _ => .before (removeClaim_told x s b)) fun _ => .refl s

theorem takeStatus_told (b : Bay) (p : List Byte) : Told x true s (takeStatus x b p s) := by
  unfold takeStatus
  split
  next r _ =>
    refine .trans (t := storeReport b r (restartRemovals x b r s)) (.before (restartRemovals_told x s b r)) ?_
    exact .ite (fun _ => .eitherOrder (fun t => repairFromStatus_told x t b r) (fun t => comparePeer_told x t b r) _)
      fun _ => repairFromStatus_told x _ b r
  next => exact .refl s

theorem refreshEntry_told (b : Bay) : Told x w s (refreshEntry b s) := .of_eq

theorem takeClaim_told (b : Bay) (p : List Byte) : Told x true s (takeClaim x b p s) := by
  refine .trans (refreshEntry_told x s b) ?_
  unfold takeClaim
  dsimp only
  split
  · exact .ite (fun _ => insertClaim_told x _ b _ _ _) fun _ => .refl _
  · exact .refl _

theorem takeRelease_told (b : Bay) (p : List Byte) : Told x true s (takeRelease x b p s) :=
  .trans (refreshEntry_told x s b) (removeReleased_told x _ b _)

theorem applyMasks_told (o : OrderFields) : Told x true s (applyMasks x o s) := by
  unfold applyMasks
  split
  · exact .eitherOrder (acknowledge_told x) (fun t => triggerCheck_told x t _) s
  · exact acknowledge_told x s
  · exact triggerCheck_told x s _
  · exact .refl s

theorem takeOrder_told (p : List Byte) : Told x true s (takeOrder x p s) :=
  .ite (fun _ => .of_eq) fun _ => .after (applyMasks_told x _ _)

/-! ### The senders of a frame -/

theorem tellCompletion_told (f : TxFrame) : Told x true s (tellCompletion x f s) := by
  unfold tellCompletion
  split
  · exact .refl s
  · exact insertClaim_told x s _ _ _ _
  · exact .trans (removeReleased_told x s _ _) (washEnd_told x _)

theorem tellDrop_told (f : TxFrame) : Told x true s (tellDrop x f s) := by
  unfold tellDrop
  split
  · exact .refl s
  · exact claimDropped_told x s
  · exact .trans (removeReleased_told x s _ _) (washEnd_told x _)

end

/-! ### A step at work -/

/-- The steps that do more than tell: a stall, the transmitter's own, and a bay conflict. -/
inductive Untold (x : Ctx) (s : State) : State → Prop
  | stall (now : Clock) : Untold x s (stallRises x { s with clock := now, screen := { s.screen with stallTimer := none } })
  | attempt (h : InHand) (c : List Byte) : s.link.tx = .defer → s.link.inHand = some h → Untold x s { s with link := { s.link with
      tx := .send, accessTimer := none, receiver := .armed, inHand := some { h with bytes := c } } }
  | completion (h : InHand) : s.link.tx = .send → s.link.inHand = some h → Untold x s
      (finishFrame x (tellCompletion x h.frame) { s with link := { s.link with receiver := .waitIdle } })
  | collision (r : Receiver) : s.link.tx = .send →
      Untold x s { s with link := { s.link with tx := .backoff, accessTimer := accessAhead x s, receiver := r } }
  | fail (now : Clock) : s.link.tx = .defer ∨ s.link.tx = .backoff → Untold x s (failAttempt x { s with clock := now })
  | conflict : Untold x s (bayConflictFound x { s with link := { s.link with receiver := .waitIdle } })

/-- A frame heard returns the ladder to LINKED before it is taken. -/
theorem heard_told (x : Ctx) (s : State) : Told x true s (returnToLinked x { s with link := { s.link with receiver := .waitIdle } }) := by
  refine .trans ?_ (returnToLinked_told x _)
  exact .quiet rfl rfl rfl rfl rfl rfl

/-- What a step at work tells the annunciator and the link interface, but for the six that do more. -/
theorem LiveStep.told_or {x : Ctx} {s t : State} (h : LiveStep x s t) : Told x true s t ∨ Untold x s t := by
  cases h
  case idle now l r _ => exact .inl (.quiet rfl rfl rfl rfl rfl rfl)
  case sample => exact .inl (.after (sampleStep_told x _ _ _))
  case ageing => exact .inl (.after (ageingStep_told x _))
  case tide => exact .inl (.after (tideStep_told x _))
  case trend => exact .inl (.after (trendStep_told x _))
  case range => exact .inl (.after (changeList_told x _ _))
  case gap => exact .inl (.after (triggerCheck_told x _ _))
  case cycle => exact .inl (.after (cycleStep_told x _))
  case shaft => exact .inl .of_eq
  case header => exact .inl (.after (headerFails_told x _))
  case retry => exact .inl (.after (.cond .washWaterFail false _ (by decide)))
  case duty => exact .inl (.after (dutyStep_told x _))
  case guardWithdraws => exact .inl (.after (withdrawStart_told x _ _))
  case guardStarts => exact .inl (.after (enterStarting_told x _))
  case startTimeout now _ => exact .inl (.before (.after (enterFailed_told x { s with clock := now })))
  case stopFails => exact .inl (.after (enterFailed_told x _))
  case stopEnds => exact .inl (.after (enterStopped_told x _))
  case stopPulseEnds => exact .inl (.after (enterStopped_told x _))
  case ringAge => exact .inl .of_eq
  case minute => exact .inl .of_eq
  case runCloses => exact .inl (.after (runClosedInState_told x _))
  case runOpens => exact .inl (.after (runOpenedInState_told x _))
  case tripCloses => exact .inl (.after (enterTripped_told x _))
  case tripFails => exact .inl (.after (enterFailed_told x _))
  case tripEnds => exact .inl (.after (enterStopped_told x _))
  case localCloses => exact .inl (.after (enterLocked_told x _))
  case localOpens => exact .inl (.after (leaveLocked_told x _))
  case ack => exact .inl (.after (acknowledge_told x _))
  case status =>
    refine .inl (.trans ?_ (.offerStatus _))
    exact .quiet rfl rfl rfl rfl rfl rfl
  case statusFrame => exact .inl (.trans (heard_told x s) (takeStatus_told x _ _ _))
  case claimFrame => exact .inl (.trans (heard_told x s) (takeClaim_told x _ _ _))
  case releaseFrame => exact .inl (.trans (heard_told x s) (takeRelease_told x _ _ _))
  case orderFrame => exact .inl (.trans (heard_told x s) (takeOrder_told x _ _))
  case stall => exact .inr (.stall _)
  case attempt h ht hh => exact .inr (.attempt h _ ht hh)
  case completion h ht hh => exact .inr (.completion h ht hh)
  case collision r ht => exact .inr (.collision r ht)
  case fail now ht => exact .inr (.fail now ht)
  case conflict => exact .inr .conflict
  all_goals exact .inl (.quiet rfl rfl rfl rfl rfl rfl)

end Sys2Proof.Machine
end

section
/-! PROOF. The alarms and the transmitter: what a judged condition, an acknowledge and an offer keep, and the statements O55 and O58
settled from it. -/

namespace Sys2Proof.Machine

set_option Elab.async false

/-! ### The alarm entries -/

theorem alarmState_set (s : State) (a b : Alarm) (e : AlarmState) :
    alarmState { s with alarms := s.alarms.set a.index e } b = if a = b then e else alarmState s b := by
  by_cases h : a = b
  · subst h; simp [alarmState]
  · simp [alarmState, h, Vector.getElem_set_ne _ _ (Alarm.index_val_ne h)]

theorem alarmState_congr {s t : State} (h : t.alarms = s.alarms) (a : Alarm) : alarmState t a = alarmState s a := by
  simp [alarmState, h]

theorem alarmState_annunciate (x : Ctx) (a b : Alarm) (v : Bool) (s : State) : alarmState (annunciate x a v s) b =
    if a = b ∧ alarmEnabled x.cfg a.index.val = true then entryAfterChange v (alarmState s a) else alarmState s b := by
  have h := annunciate_alarms x a v s
  cases he : alarmEnabled x.cfg a.index.val
  · rw [alarmState_congr (by simpa [he] using h)]; simp
  · rw [alarmState_congr (t := annunciate x a v s) (s := { s with alarms := s.alarms.set a.index (entryAfterChange v (alarmState s a)) })
      (by simpa [he] using h), alarmState_set]
    simp

theorem alarmState_setCond (x : Ctx) (a b : Alarm) (v : Bool) (s : State) : alarmState (setCond x a v s) b =
    if a = b ∧ alarmEnabled x.cfg a.index.val = true ∧ s.conds.get a ≠ v then entryAfterChange v (alarmState s a)
    else alarmState s b := by
  unfold setCond
  split
  next h => simp [h]
  next h =>
    rw [alarmState_annunciate]
    simp [h, alarmState]

theorem alarmState_acked (c : Settings) (s : State) (a : Alarm) : alarmState { s with alarms := ackedEntries c s.alarms } a =
    if alarmEnabled c a.index.val then entryAfterAck (alarmState s a) else alarmState s a := by
  simp [alarmState, ackedEntries]

/-- The alarm's entry agrees with its condition (R145, R149). -/
def alarmAgrees (x : Ctx) (s : State) (a : Alarm) : Prop :=
  (alarmEnabled x.cfg a.index.val = true → (alarmState s a = .unack ∨ alarmState s a = .acked ↔ s.conds.get a = true)) ∧
  (alarmEnabled x.cfg a.index.val = false → alarmState s a = .normal)

theorem alarmAgrees_congr {x : Ctx} {s t : State} {a : Alarm} (hc : t.conds.get a = s.conds.get a)
    (ha : alarmState t a = alarmState s a) : alarmAgrees x t a ↔ alarmAgrees x s a := by
  simp only [alarmAgrees, hc, ha]

theorem alarmAgrees_of_parts {x : Ctx} {s t : State} {a : Alarm} (hc : t.conds = s.conds) (ha : t.alarms = s.alarms) :
    alarmAgrees x t a ↔ alarmAgrees x s a :=
  alarmAgrees_congr (by rw [hc]) (alarmState_congr ha a)

/-- A change of its condition moves an agreeing entry to an agreeing one. -/
theorem setCond_alarmAgrees {x : Ctx} {s : State} (a : Alarm) (v : Bool) {b : Alarm} (h : alarmAgrees x s b) :
    alarmAgrees x (setCond x a v s) b := by
  by_cases hab : a = b
  · subst hab
    by_cases hv : s.conds.get a = v
    · rwa [setCond_same hv]
    · obtain ⟨hen, hdis⟩ := h
      constructor <;> intro he
      · have hs := hen he
        rw [alarmState_setCond, if_pos ⟨rfl, he, hv⟩, setCond_conds, Conds.get_set_self]
        cases v <;> cases hst : alarmState s a <;> simp_all [entryAfterChange]
      · rw [alarmState_setCond, if_neg (by simp [he])]
        exact hdis he
  · exact (alarmAgrees_congr (by rw [setCond_conds, Conds.get_set_of_ne _ _ hab])
      (by rw [alarmState_setCond, if_neg (by simp [hab])])).2 h

theorem acked_alarmAgrees {x : Ctx} {s : State} {a : Alarm} (h : alarmAgrees x s a) :
    alarmAgrees x { s with alarms := ackedEntries x.cfg s.alarms } a := by
  obtain ⟨hen, hdis⟩ := h
  constructor <;> intro he
  · have hs := hen he
    rw [alarmState_acked, if_pos he]
    change _ ↔ s.conds.get a = true
    cases hst : alarmState s a <;> simp_all [entryAfterAck]
  · rw [alarmState_acked, if_neg (by simp [he])]
    exact hdis he

theorem Told.alarmAgrees {x : Ctx} {w : Bool} {s t : State} (h : Told x w s t) {a : Alarm} (ha : alarmAgrees x s a) : alarmAgrees x t a := by
  induction h with
  | quiet hc hl => exact (alarmAgrees_of_parts hc hl).2 ha
  | offer f s => exact (alarmAgrees_of_parts (by simp) (by simp)).2 ha
  | cond b v s _ => exact setCond_alarmAgrees b v ha
  | acked s => exact acked_alarmAgrees ha
  | cancel p s => exact ha
  | trans _ _ ih1 ih2 => exact ih2 (ih1 ha)

/-- The rise of a stall moves the condition and its entry as its judgement does. -/
theorem stallRises_alarms (x : Ctx) (s : State) : (stallRises x s).conds = (setCond x .screenStall true s).conds ∧
    (stallRises x s).alarms = (setCond x .screenStall true s).alarms := by
  refine ⟨?_, ?_⟩
  · unfold stallRises; dsimp only; split <;> simp [Conds.set]
  · unfold stallRises setCond
    dsimp only
    by_cases h : s.conds.screenStall = true
    · simp [h, Conds.get]
    · simp [h, Conds.get, annunciate_alarms, alarmState, Conds.set]

theorem LiveStep.alarmAgrees {x : Ctx} {s t : State} (h : LiveStep x s t) {a : Alarm} (ha : alarmAgrees x s a) :
    alarmAgrees x t a := by
  rcases h.told_or with h | h
  · exact h.alarmAgrees ha
  cases h
  case stall now =>
    obtain ⟨hc, hl⟩ := stallRises_alarms x { s with clock := now, screen := { s.screen with stallTimer := none } }
    exact (alarmAgrees_of_parts hc hl).2 (setCond_alarmAgrees .screenStall true ha)
  case attempt | collision => exact ha
  case completion => exact (alarmAgrees_of_parts (by simp) (by simp)).2 ha
  case fail => exact (alarmAgrees_of_parts (by simp) (by simp)).2 ha
  case conflict =>
    unfold bayConflictFound
    split
    · exact ha
    · have hset := setCond_alarmAgrees (x := x) .bayConflict true
        (s := { s with link := { s.link with receiver := .waitIdle } }) (b := a) ha
      refine Told.alarmAgrees (.trans (.trans (removeClaim_told x _ x.bay) (conflictAtScreen_told x _)) (conflictAtPump_told x _)) ?_
      exact hset

theorem AlarmLaw.of_agrees {s : State} {x : Ctx} (hx : ctx? s = some x) (h : ∀ a, alarmAgrees x s a) : AlarmLaw s where
  loads := resetLoads_of_ctx hx
  enabled y a hy := by obtain rfl := Option.some.inj (hx.symm.trans hy); exact (h a).1
  disabled y a hy := by obtain rfl := Option.some.inj (hx.symm.trans hy); exact (h a).2
  rest hr := absurd hr (not_atRest_of_ctx hx)

theorem AlarmLaw.agrees {s : State} {x : Ctx} (h : AlarmLaw s) (hx : ctx? s = some x) (a : Alarm) : alarmAgrees x s a :=
  ⟨h.enabled x a hx, h.disabled x a hx⟩

/-! ### The statement about the alarms -/

theorem enterListening_alarms (x : Ctx) (s : State) : (enterListening x s).alarms =
    if s.conds.pumpTrip = true then (annunciate x .pumpTrip true s).alarms else s.alarms := by
  unfold enterListening startLink
  dsimp only
  by_cases hc : countsRunning s.pump.state s.lines.run = true <;> by_cases ht : s.conds.pumpTrip = true <;>
    simp [startTimers, ownEntryPresent, countedRunning, hc, ht, annunciate_alarms, alarmState]

/-- At LISTENING entry PUMP TRIP is judged on the state adopted, its condition having stood false. -/
theorem listening_alarmAgrees {x : Ctx} {s : State} (record : List Byte) (hc : s.conds = Conds.reset)
    (ha : s.alarms = Vector.replicate 17 .normal) (a : Alarm) :
    alarmAgrees x (enterListening x (adopt x.cfg (recordTaken record s))) a := by
  have hbefore : alarmAgrees x { adopt x.cfg (recordTaken record s) with conds := s.conds } a := by
    constructor <;> intro <;> simp [alarmState, adopt, ha, hc]
  refine (alarmAgrees_of_parts ?_ ?_).2 (setCond_alarmAgrees .pumpTrip (decide (adoptedState s.lines = .tripped)) hbefore)
  · simp [adopt, Conds.set]
  · rw [enterListening_alarms]
    unfold setCond
    by_cases ht : adoptedState s.lines = .tripped <;> simp [adopt, hc, ht, annunciate_alarms, Conds.get, Conds.reset, alarmState]

theorem AlarmLaw.step {s t : State} (hs : AlarmLaw s) (h : step s = .next t) : AlarmLaw t := by
  refine step_keeps (P := AlarmLaw) ?_ ?_ ?_ ?_ ?_ hs h
  · exact fun s q h => ⟨h.loads, h.enabled, h.disabled, h.rest⟩
  · exact fun s c h => ⟨h.loads, h.enabled, h.disabled, h.rest⟩
  · exact fun s => ⟨fun _ => rfl, fun x a hx => (by simp [ctx?, resetStation, Loader.reset] at hx),
      fun x a hx => (by simp [ctx?, resetStation, Loader.reset] at hx), fun _ => ⟨rfl, rfl⟩⟩
  · exact fun x s t hs hx hl => .of_agrees (hl.ctx hx) fun a => hl.alarmAgrees (hs.agrees hx a)
  · refine fun s t hs hx hr => hr.keeps (fun _ h => h.loads) ?_ ?_ ?_ hs hx
    · exact fun s l r hs _ => ⟨hs.loads, hs.enabled, hs.disabled, hs.rest⟩
    · intro s r l w hs hrest hp hr _
      have hx : ctx? { s with inReset := r, loader := l, screen := { s.screen with working := w } } = none := ctx?_of_rest hp
      exact ⟨hr, fun x a h => by simp [hx] at h, fun x a h => by simp [hx] at h, fun _ => hs.rest hrest⟩
    · intro s x record hs hrest _ hx
      exact .of_agrees hx (listening_alarmAgrees record (hs.rest hrest).1 (hs.rest hrest).2)

theorem Alarm.exists_index (i : Fin 17) : ∃ a : Alarm, a.index = i := by
  fin_cases i
  exacts [⟨.lowLow, rfl⟩, ⟨.low, rfl⟩, ⟨.high, rfl⟩, ⟨.highHigh, rfl⟩, ⟨.surge, rfl⟩, ⟨.levelUnknown, rfl⟩, ⟨.outerSensor, rfl⟩,
    ⟨.innerSensor, rfl⟩, ⟨.suctionLow, rfl⟩, ⟨.pumpTrip, rfl⟩, ⟨.pumpFail, rfl⟩, ⟨.screenBlocked, rfl⟩, ⟨.screenStall, rfl⟩,
    ⟨.washWaterFail, rfl⟩, ⟨.linkIsolated, rfl⟩, ⟨.bayConflict, rfl⟩, ⟨.dutyRecordLost, rfl⟩]

/-- Settles O55: every step at work moves the entries by judged conditions and acknowledges, which keep them in agreement. -/
theorem everyStepKeepsTheAlarmLaw : Obligations.EveryStepKeepsTheAlarmLaw := by
  intro s t hs h
  refine ⟨hs.step h, ?_⟩
  simp only [outputs, alarmOutput, Bool.or_eq_true, decide_eq_true_eq, List.any_eq_true]
  refine or_congr_right ⟨?_, ?_⟩
  · rintro ⟨e, he, hst⟩
    obtain ⟨i, hi, rfl⟩ := List.getElem_of_mem he
    obtain ⟨a, ha⟩ := Alarm.exists_index ⟨i, by simpa using hi⟩
    refine ⟨a, ?_⟩
    simpa [alarmState, ha] using hst
  · rintro ⟨a, ha⟩
    exact ⟨alarmState t a, by simp [alarmState], ha⟩

end Sys2Proof.Machine
end

section
/-! PROOF. The transmitter: what an offer, the end of a frame and a failed attempt keep, and the statement O58 settled from it. -/

namespace Sys2Proof.Machine

set_option Elab.async false

/-- The law of the transmitter at work, BAY CONFLICT being as given. -/
structure LinkOk (l : Link) (conflict : Bool) : Prop where
  status  : l.queue.count .status ≤ 1
  inHand  : l.inHand.isSome = true ↔ l.tx = .defer ∨ l.tx = .send ∨ l.tx = .backoff
  attempt : ∀ h, l.inHand = some h → 1 ≤ h.attempt ∧ h.attempt ≤ 8
  access  : l.accessTimer.isSome = true ↔ l.tx = .defer ∨ l.tx = .backoff
  empty   : l.tx = .idle ∨ l.tx = .mute → l.queue = []
  mute    : l.tx = .mute ↔ conflict = true

theorem count_status_append {q : List TxFrame} {f : TxFrame} (hq : q.count .status ≤ 1) (hf : f = .status → TxFrame.status ∉ q) :
    (q ++ [f]).count .status ≤ 1 := by
  rw [List.count_append]
  by_cases h : f = .status
  · simp [h, List.count_eq_zero_of_not_mem (hf h)]
  · simp [h, hq]

theorem takeNext_linkOk {x : Ctx} {s : State} {c : Bool} (hq : s.link.queue.count .status ≤ 1) (ht : s.link.tx = .idle)
    (hh : s.link.inHand = none) (ha : s.link.accessTimer = none) (hc : c = false) : LinkOk (takeNext x s).link c := by
  unfold takeNext
  split
  next f rest _ hqueue =>
    rw [hqueue] at hq
    exact ⟨(List.count_le_count_cons).trans hq, by simp, fun h hh => by obtain rfl := Option.some.inj hh; simp,
      by simp [accessAhead], by simp, by simp [hc]⟩
  next hne =>
    have hnil : s.link.queue = [] := by
      cases hs : s.link.queue with
      | nil => rfl
      | cons f rest => exact absurd hs (hne f rest ht)
    exact ⟨hq, by simp [ht, hh], by simp [hh], by simp [ht, ha], fun _ => hnil, by simp [ht, hc]⟩

theorem offer_linkOk {x : Ctx} {f : TxFrame} {s : State} {c : Bool} (h : LinkOk s.link c) : LinkOk (offer x f s).link c := by
  by_cases hm : s.link.tx = .mute
  · rwa [offer_mute hm]
  by_cases hi : s.link.tx = .idle
  · have hc : c = false := by simpa [hi] using h.mute
    rw [offer_idle hi (h.empty (.inl hi))]
    exact ⟨by simp, by simp, fun h hh => by obtain rfl := Option.some.inj hh; simp, by simp [accessAhead], by simp, by simp [hc]⟩
  by_cases hf : f = .status ∧ TxFrame.status ∈ s.link.queue
  · rw [hf.1, offer_status_waiting hf.2]
    exact h
  · have hf' : f = .status → TxFrame.status ∉ s.link.queue := fun h1 h2 => hf ⟨h1, h2⟩
    rw [offer_busy hm hi hf']
    exact ⟨count_status_append h.status hf', h.inHand, h.attempt, h.access, fun ht => absurd ht (by simp [hi, hm]), h.mute⟩

/-- What a judged condition does to the link interface is an offer or nothing. -/
theorem setCond_link (x : Ctx) (a : Alarm) (v : Bool) (s : State) :
    (setCond x a v s).link = s.link ∨ ∃ u : State, u.link = s.link ∧ (setCond x a v s).link = (offer x .status u).link := by
  unfold setCond annunciate
  dsimp only
  split_ifs
  · exact .inl rfl
  · exact .inr ⟨_, by rfl, rfl⟩
  · exact .inl rfl

theorem setCond_linkOk {x : Ctx} {a : Alarm} {v : Bool} {s : State} {c : Bool} (h : LinkOk s.link c) :
    LinkOk (setCond x a v s).link c := by
  rcases setCond_link x a v s with hl | ⟨u, hu, hl⟩ <;> rw [hl]
  · exact h
  · exact offer_linkOk (hu ▸ h)

theorem setCond_bayConflict {x : Ctx} {a : Alarm} {v : Bool} {s : State} (h : a ≠ .bayConflict) :
    (setCond x a v s).conds.bayConflict = s.conds.bayConflict := by
  rw [setCond_conds]
  exact Conds.get_set_of_ne s.conds v h

theorem LinkOk.of_eq {l m : Link} {c : Bool} (h : LinkOk l c) (h1 : m.tx = l.tx) (h2 : m.inHand = l.inHand)
    (h3 : m.queue = l.queue) (h4 : m.accessTimer = l.accessTimer) : LinkOk m c := by
  obtain ⟨status, inHand, attempt, access, empty, mute⟩ := h
  constructor <;> simp only [h1, h2, h3, h4] <;> assumption

/-- What the blocks tell never moves BAY CONFLICT. -/
theorem Told.bayConflict {x : Ctx} {w : Bool} {s t : State} (h : Told x w s t) : t.conds.bayConflict = s.conds.bayConflict := by
  induction h with
  | quiet hc => rw [hc]
  | offer f s => simp
  | cond a v s ha => exact setCond_bayConflict ha
  | acked s | cancel p s => rfl
  | trans _ _ ih1 ih2 => exact ih2.trans ih1

theorem Told.linkOk {x : Ctx} {w : Bool} {s t : State} (h : Told x w s t) (hs : LinkOk s.link s.conds.bayConflict) :
    LinkOk t.link t.conds.bayConflict := by
  rw [h.bayConflict]
  generalize s.conds.bayConflict = c at hs
  induction h with
  | quiet _ _ h1 h2 h3 h4 => exact hs.of_eq h1 h2 h3 h4
  | offer f s => exact offer_linkOk hs
  | cond a v s _ => exact setCond_linkOk hs
  | acked s => exact hs
  | cancel p s =>
    exact ⟨(List.Sublist.count_le _ List.filter_sublist).trans hs.status, hs.inHand, hs.attempt, hs.access,
      fun ht => by simp [hs.empty ht], hs.mute⟩
  | trans _ _ ih1 ih2 => exact ih2 (ih1 hs)

/-- A transmitter with a frame to send keeps its state, its hand and its timer while the blocks tell it more. -/
structure Busy (s : State) (l : Link) : Prop where
  tx     : s.link.tx = l.tx
  inHand : s.link.inHand = l.inHand
  access : s.link.accessTimer = l.accessTimer
  status : s.link.queue.count .status ≤ 1

theorem offer_busy_keeps {x : Ctx} {f : TxFrame} {s : State} {l : Link} (hi : l.tx ≠ .idle) (hs : Busy s l) :
    Busy (offer x f s) l := by
  obtain ⟨h1, h2, h3, h4⟩ := hs
  by_cases hm : s.link.tx = .mute
  · rw [offer_mute hm]; exact ⟨h1, h2, h3, h4⟩
  by_cases hf : f = .status ∧ TxFrame.status ∈ s.link.queue
  · rw [hf.1, offer_status_waiting hf.2]; exact ⟨h1, h2, h3, h4⟩
  · have hf' : f = .status → TxFrame.status ∉ s.link.queue := fun h1 h2 => hf ⟨h1, h2⟩
    rw [offer_busy hm (h1 ▸ hi) hf']
    exact ⟨h1, h2, h3, count_status_append h4 hf'⟩

theorem Busy.of_link {s t : State} {l : Link} (hs : Busy s l) (h : t.link = s.link) : Busy t l := by
  obtain ⟨h1, h2, h3, h4⟩ := hs
  exact ⟨h ▸ h1, h ▸ h2, h ▸ h3, h ▸ h4⟩

theorem Told.busy {x : Ctx} {w : Bool} {s t : State} {l : Link} (h : Told x w s t) (hi : l.tx ≠ .idle) (hs : Busy s l) : Busy t l := by
  induction h with
  | quiet _ _ h1 h2 h3 h4 => exact ⟨h1.trans hs.tx, h2.trans hs.inHand, h4.trans hs.access, by rw [h3]; exact hs.status⟩
  | offer f s => exact offer_busy_keeps hi hs
  | cond a v s _ =>
    rcases setCond_link x a v s with hl | ⟨u, hu, hl⟩
    · exact hs.of_link hl
    · exact (offer_busy_keeps hi (hs.of_link hu)).of_link hl
  | acked s => exact hs.of_link rfl
  | cancel p s => exact ⟨hs.tx, hs.inHand, hs.access, (List.Sublist.count_le _ List.filter_sublist).trans hs.status⟩
  | trans _ _ ih1 ih2 => exact ih2 (ih1 hs)

/-- The end of a frame in hand: its sender is told while the transmitter is still busy, and then the next is taken. -/
theorem finishFrame_linkOk {x : Ctx} {tell : State → State} {s : State} {c : Bool} (h : LinkOk s.link c)
    (ht : s.link.tx ≠ .idle ∧ s.link.tx ≠ .mute) (htold : ∀ u, Told x true u (tell u)) : LinkOk (finishFrame x tell s).link c := by
  have hb := (htold { s with link := { s.link with inHand := none, accessTimer := none } }).busy
    (l := { s.link with inHand := none, accessTimer := none }) ht.1 ⟨rfl, rfl, rfl, h.status⟩
  have hc : c = false := by simpa [ht.2] using h.mute
  exact takeNext_linkOk hb.status rfl hb.inHand hb.access hc

theorem failAttempt_linkOk {x : Ctx} {s : State} {c : Bool} (h : LinkOk s.link c) (ht : s.link.tx = .defer ∨ s.link.tx = .backoff) :
    LinkOk (failAttempt x s).link c := by
  unfold failAttempt
  split
  next g hg =>
    split
    next hlt =>
      have hc : c = false := by rcases ht with ht | ht <;> simpa [ht] using h.mute
      exact ⟨h.status, by simp, fun k hk => by obtain rfl := Option.some.inj hk; exact ⟨by simp, hlt⟩, by simp [accessAhead],
        by simp, by simp [hc]⟩
    next =>
      exact finishFrame_linkOk h (by rcases ht with ht | ht <;> simp [ht]) fun u => tellDrop_told x u _
  next => exact h

theorem stallRises_linkOk {x : Ctx} {s : State} (h : LinkOk s.link s.conds.bayConflict) :
    LinkOk (stallRises x s).link s.conds.bayConflict := by
  have hselect : LinkOk (abortWash x (selectDrive x { s with conds := { s.conds with screenStall := true } })).link
      s.conds.bayConflict := by
    have := (abortWash_told x (selectDrive x { s with conds := { s.conds with screenStall := true } })).linkOk (by simpa using h)
    simpa using this
  unfold stallRises
  dsimp only
  split
  · exact hselect
  · unfold annunciate
    dsimp only
    split
    · exact offer_linkOk hselect
    · exact hselect

theorem LiveStep.linkOk {x : Ctx} {s t : State} (h : LiveStep x s t) (hs : LinkOk s.link s.conds.bayConflict) :
    LinkOk t.link t.conds.bayConflict := by
  rcases h.told_or with h | h
  · exact h.linkOk hs
  cases h
  case stall now =>
    have hb : (stallRises x { s with clock := now, screen := { s.screen with stallTimer := none } }).conds.bayConflict =
        s.conds.bayConflict := by rw [(stallRises_alarms x _).1]; exact setCond_bayConflict (by decide)
    rw [hb]
    exact stallRises_linkOk (s := { s with clock := now, screen := { s.screen with stallTimer := none } }) hs
  case attempt g c ht hg =>
    exact ⟨hs.status, by simp, fun k hk => by obtain rfl := Option.some.inj hk; exact hs.attempt g hg, by simp, by simp,
      by simpa [ht] using hs.mute⟩
  case completion g ht hg =>
    simpa using finishFrame_linkOk (x := x) (tell := tellCompletion x g.frame)
      (s := { s with link := { s.link with receiver := .waitIdle } }) (hs.of_eq rfl rfl rfl rfl) (by simp [ht])
      fun u => tellCompletion_told x u _
  case collision r ht =>
    have hin := hs.inHand
    exact ⟨hs.status, by simpa [ht] using hin, hs.attempt, by simp [accessAhead], by simp, by simpa [ht] using hs.mute⟩
  case fail now ht =>
    simpa using failAttempt_linkOk (x := x) (s := { s with clock := now }) hs ht
  case conflict =>
    unfold bayConflictFound
    split
    next hb => exact hs.of_eq rfl rfl rfl rfl
    next hb =>
      refine Told.linkOk (.trans (.trans (removeClaim_told x _ x.bay) (conflictAtScreen_told x _)) (conflictAtPump_told x _)) ?_
      exact ⟨by simp, by simp, by simp, by simp, fun _ => rfl, by simp [Conds.set]⟩

theorem LinkLaw.ok {s : State} {x : Ctx} (h : LinkLaw s) (hx : ctx? s = some x) : LinkOk s.link s.conds.bayConflict :=
  ⟨h.status, h.inHand, h.attempt, h.access, h.empty, h.mute (by simp [hx]), h.conflict⟩

theorem LinkLaw.of_ok {s : State} {x : Ctx} (hx : ctx? s = some x) (h : LinkOk s.link s.conds.bayConflict) : LinkLaw s :=
  ⟨resetLoads_of_ctx hx, h.status, h.inHand, h.attempt, h.access, h.empty, h.mute.2, fun _ => h.mute.1,
    fun hr => absurd hr (not_atRest_of_ctx hx)⟩

theorem LinkLaw.step {s t : State} (hs : LinkLaw s) (h : step s = .next t) : LinkLaw t := by
  refine step_keeps (P := LinkLaw) ?_ ?_ ?_ ?_ ?_ hs h
  · exact fun s q h => ⟨h.loads, h.status, h.inHand, h.attempt, h.access, h.empty, h.conflict, h.mute, h.rest⟩
  · exact fun s c h => ⟨h.loads, h.status, h.inHand, h.attempt, h.access, h.empty, h.conflict, h.mute, h.rest⟩
  · intro s
    constructor <;> simp [resetStation, ResetLoads, Loader.reset, Link.reset, Conds.reset, ctx?]
  · exact fun x s t hs hx hl => .of_ok (hl.ctx hx) (hl.linkOk (hs.ok hx))
  · refine fun s t hs hx hr => hr.keeps (fun _ h => h.loads) ?_ ?_ ?_ hs hx
    · exact fun s l r h _ => ⟨h.loads, h.status, h.inHand, h.attempt, h.access, h.empty, h.conflict, h.mute, h.rest⟩
    · intro s r l w h hrest hp hr _
      have hx : ctx? { s with inReset := r, loader := l, screen := { s.screen with working := w } } = none := ctx?_of_rest hp
      exact ⟨hr, h.status, h.inHand, h.attempt, h.access, h.empty, h.conflict, fun hc => by simp [hx] at hc, fun _ => h.rest hrest⟩
    · intro s x record hs hrest _ hx
      obtain ⟨hm, hb⟩ := hs.rest hrest
      refine .of_ok hx ?_
      have hl := enterListening_link (x := x) (s := adopt x.cfg (recordTaken record s)) (by simpa [adopt] using hm)
        (by simpa [adopt] using hs.empty (.inr hm))
      rw [hl]
      constructor <;> simp [adopt, ahead, hb]

/-- Settles O58: outside the transmitter's own steps the link interface moves by offers and cancelled entries, which keep its law. -/
theorem everyStepKeepsTheLinkLaw : Obligations.EveryStepKeepsTheLinkLaw := fun _ _ hs h => ⟨hs.step h, by simp [outputs]⟩

end Sys2Proof.Machine
end

section
/-! PROOF. The pump controller: every operation at work moves the pump by the entries to its states, each from a state it may be entered
from (`PumpMoves`). -/

namespace Sys2Proof.Machine

set_option Elab.async false

/-- From the first state to the second the pump has moved by entries to its states, a cut pulse, a recorded cause and, in LISTENING, the
adoption of the run hours; nothing else that its laws read has moved. -/
inductive PumpMoves (x : Ctx) : State → State → Prop
  | quiet {s t : State} : t.pump = s.pump → t.conds.pumpTrip = s.conds.pumpTrip → t.conds.pumpFail = s.conds.pumpFail →
      t.lines.run = s.lines.run → t.fouling.runningMark = s.fouling.runningMark →
      (s.loader.phase = .operating → t.loader.phase = .operating) → PumpMoves x s t
  | cause (c : Cause) (s : State) : PumpMoves x s { s with pump := { s.pump with cause := c } }
  | hours (n : Nat) (s : State) : s.loader.phase ≠ .operating → PumpMoves x s { s with pump := { s.pump with runMinutes := n } }
  | cut (s : State) : PumpMoves x s (cutPulse s)
  | stopped (s : State) : s.pump.state ≠ .startPending → s.pump.state ≠ .running → PumpMoves x s (enterStopped x s)
  | stopping (s : State) : s.pump.state ≠ .startPending → PumpMoves x s (enterStopping x s)
  | failed (s : State) : PumpMoves x s (enterFailed x s)
  | tripped (s : State) : PumpMoves x s (enterTripped x s)
  | locked (s : State) : PumpMoves x s (enterLocked x s)
  | withdrawn (c : Cause) (s : State) : s.pump.state = .startPending → PumpMoves x s (withdrawStart x c s)
  | pending (n : Nat) (s : State) : s.pump.state = .stopped → startsInLastHour s < x.cfg.startLimit →
      PumpMoves x s (setPump x .startPending { s with pump := { s.pump with guardTimer := ahead s n } })
  | running (n : Nat) (s : State) : s.pump.state = .starting →
      PumpMoves x s (setPump x .running { s with pump := { s.pump with feedbackTimer := none, minRunTimer := ahead s n } })
  | takenOver (s : State) : s.pump.state = .failed ∨ s.pump.state = .locked →
      PumpMoves x s (setPump x .running { s with pump := { s.pump with minRunTimer := none } })
  | trans {s t u : State} : PumpMoves x s t → PumpMoves x t u → PumpMoves x s u

namespace PumpMoves

variable {x : Ctx} {s t u : State}

/-- Nothing the pump's laws read has moved. -/
theorem still (hp : t.pump = s.pump := by simp) (ht : t.conds.pumpTrip = s.conds.pumpTrip := by simp)
    (hf : t.conds.pumpFail = s.conds.pumpFail := by simp) (hl : t.lines.run = s.lines.run := by simp)
    (hm : t.fouling.runningMark = s.fouling.runningMark := by simp)
    (ho : s.loader.phase = .operating → t.loader.phase = .operating := by simp) : PumpMoves x s t :=
  .quiet hp ht hf hl hm ho

theorem refl (s : State) : PumpMoves x s s := .still

/-- A condition other than PUMP TRIP and PUMP FAIL judged. -/
theorem cond (a : Alarm) (v : Bool) (s : State) (h1 : a ≠ .pumpTrip := by decide) (h2 : a ≠ .pumpFail := by decide) :
    PumpMoves x s (setCond x a v s) := by
  refine .still (ht := ?_) (hf := ?_)
  · rw [setCond_conds]; exact Conds.get_set_of_ne s.conds v h1
  · rw [setCond_conds]; exact Conds.get_set_of_ne s.conds v h2

theorem ite {c : Prop} [Decidable c] (h1 : c → PumpMoves x s t) (h2 : ¬c → PumpMoves x s u) :
    PumpMoves x s (if c then t else u) := by
  split
  next h => exact h1 h
  next h => exact h2 h

theorem eitherOrder {first second : State → State} (h1 : ∀ s, PumpMoves x s (first s)) (h2 : ∀ s, PumpMoves x s (second s))
    (s : State) : PumpMoves x s (eitherOrder first second s) := by
  have hc : PumpMoves x s { s with choices := s.choices + 1 } := .still
  rcases eitherOrder_cases first second s with h | h <;> rw [h]
  · exact .trans hc (.trans (h1 _) (h2 _))
  · exact .trans hc (.trans (h2 _) (h1 _))

theorem foldl {α : Type} {g : State → α → State} (h : ∀ s a, PumpMoves x s (g s a)) (l : List α) (s : State) :
    PumpMoves x s (l.foldl g s) := by
  induction l generalizing s with
  | nil => exact .refl s
  | cons a l ih => exact .trans (h s a) (ih _)

end PumpMoves

section
variable (x : Ctx) (s : State)

/-! ### Protective stops and a pending start -/

theorem protectOnEntry_moves (h : s.pump.state ≠ .startPending) : PumpMoves x s (protectOnEntry x s) :=
  .ite (fun _ => .stopping s h) fun _ => .refl s

theorem takeOverRunning_moves (h : s.pump.state = .failed ∨ s.pump.state = .locked) : PumpMoves x s (takeOverRunning x s) :=
  .trans (.takenOver s h) (protectOnEntry_moves x _ (by simp))

theorem enterRunning_moves (h : s.pump.state = .starting) : PumpMoves x s (enterRunning x s) :=
  .trans (.running _ s h) (protectOnEntry_moves x _ (by simp))

theorem checkPending_moves : PumpMoves x s (checkPending x s) := by
  unfold checkPending
  split
  next h =>
    split
    · exact .withdrawn _ s h
    · exact .refl s
  next => exact .refl s

theorem protectiveStop_moves (c : Cause) : PumpMoves x s (protectiveStop x c s) := by
  unfold protectiveStop
  split
  next h => exact .stopping s (by simp [h])
  next h => exact .stopping s (by simp [h])
  next h => exact .withdrawn c s h
  all_goals exact .refl s

theorem comparePeer_moves (b : Bay) (r : Report) : PumpMoves x s (comparePeer x b r s) := by
  unfold comparePeer
  split
  next h =>
    split
    · exact .withdrawn _ s h
    · exact .ite (fun _ => .withdrawn _ s h) fun _ => .refl s
    · exact .refl s
  next => exact .refl s

theorem comparePeers_moves : PumpMoves x s (comparePeers x s) :=
  .foldl (fun t b => by split; exacts [comparePeer_moves x t b _, .refl t]) _ s

/-! ### Wishes, acknowledges, conflicts and contacts -/

theorem takeStartWish_moves : PumpMoves x s (takeStartWish x s) := by
  refine .ite (fun h => ?_) fun _ => .refl s
  obtain ⟨hp, hs⟩ : s.pump.state = .stopped ∧ startable x.cfg s = true := by simpa using h
  have hn : startsInLastHour s < x.cfg.startLimit := by simp [startable] at hs; exact hs.1.1.2
  exact .trans (.pending _ s hp hn) (comparePeers_moves x _)

theorem takeStopWish_moves : PumpMoves x s (takeStopWish x s) := by
  refine .ite (fun h => .stopping s ?_) fun _ => .refl s
  have hp : s.pump.state = .running ∧ s.conds.bayConflict = false := by simpa using h
  simp [hp.1]

theorem ackAtPump_moves : PumpMoves x s (ackAtPump x s) :=
  .ite (fun h => .ite (fun _ => takeOverRunning_moves x s (.inl h)) fun _ => .stopped s (by simp [h]) (by simp [h])) fun _ => .refl s

theorem isolatedAtPump_moves : PumpMoves x s (isolatedAtPump x s) := .ite (fun h => .withdrawn _ s h) fun _ => .refl s

theorem conflictAtPump_moves : PumpMoves x s (conflictAtPump x s) :=
  .trans (.ite (fun _ => .cut s) fun _ => .refl s) (checkPending_moves x _)

theorem runClosedInState_moves : PumpMoves x s (runClosedInState x s) := by
  unfold runClosedInState
  split
  · exact .failed s
  · exact .failed s
  next h => exact enterRunning_moves x s h
  all_goals exact .refl s

theorem runOpenedInState_moves : PumpMoves x s (runOpenedInState x s) := by
  unfold runOpenedInState
  split
  · exact .failed s
  next h => exact .ite (fun _ => .refl s) fun _ => .stopped s (by simp [h]) (by simp [h])
  all_goals exact .refl s

theorem leaveLocked_moves (h : s.pump.state = .locked) : PumpMoves x s (leaveLocked x s) :=
  .ite (fun _ => .tripped s) fun _ => .ite (fun _ => takeOverRunning_moves x s (.inr h)) fun _ =>
    .stopped s (by simp [h]) (by simp [h])

theorem handWish_moves : PumpMoves x s (handWish x s) := by
  unfold handWish
  split
  · split
    · exact .cause _ s
    · exact takeStartWish_moves x s
  · exact .ite (fun _ => takeStopWish_moves x s) fun _ => .refl s
  all_goals exact .refl s

theorem dutyStep_moves : PumpMoves x s (dutyStep x s) := by
  unfold dutyStep
  exact .trans .still (handWish_moves x _)

/-! ### The pair -/

theorem blockedChanged_moves (v : Bool) : PumpMoves x s (blockedChanged x v s) :=
  .trans (.cond .screenBlocked v s) (.ite (fun _ => protectiveStop_moves x _ _) fun _ => .refl _)

theorem foulingUpdate_moves : PumpMoves x s (foulingUpdate x s) := by
  unfold foulingUpdate
  refine .ite (fun _ => .still) fun _ => ?_
  exact .trans .still (.eitherOrder (fun t => .still) (fun t => blockedChanged_moves x t _) _)

theorem suctionChanged_moves (v : Bool) : PumpMoves x s (suctionChanged x v s) :=
  .trans (.cond .suctionLow v s) (.ite (fun _ => protectiveStop_moves x _ _) fun _ => .refl _)

theorem deliverPair_moves : PumpMoves x s (deliverPair x s) :=
  .ite (fun _ => foulingUpdate_moves x s) fun _ => .eitherOrder (foulingUpdate_moves x) (fun t => suctionChanged_moves x t _) s

theorem sampleStep_moves (o i : Nat) : PumpMoves x s (sampleStep x o i s) := by
  unfold sampleStep
  exact .trans (.still (t := sampledLoops x o i s)) (.trans (.cond .innerSensor _ _) (.trans (.cond .outerSensor _ _)
    (.trans (checkPending_moves x _) (deliverPair_moves x _))))

/-! ### The other blocks -/

theorem tideStep_moves : PumpMoves x s (tideStep x s) := by
  have hc : (tideStep x s).conds.pumpTrip = s.conds.pumpTrip ∧ (tideStep x s).conds.pumpFail = s.conds.pumpFail := by
    unfold tideStep handTideConditions formOuterSensor
    dsimp only
    split_ifs <;> simp [Conds.set]
  exact .still (ht := hc.1) (hf := hc.2)

theorem ackEntries_moves : PumpMoves x s (ackEntries x s) := .still

theorem acknowledge_moves : PumpMoves x s (acknowledge x s) := by
  unfold acknowledge
  refine .trans (ackEntries_moves x s) (.trans (ackAtPump_moves x _) (.trans ?_ (.cond .dutyRecordLost false _)))
  exact .ite (fun _ => .trans (.cond .screenStall false _) .still) fun _ => .refl _

theorem setStage_moves (st : Stage) : PumpMoves x s (setStage x st s) := by
  unfold setStage
  refine .ite (fun _ => .refl s) fun _ => .trans (t := offerStatus x { s with ladder := { s.ladder with stage := st } }) .still
    (.trans (.ite (fun _ => ?_) fun _ => .refl _) (.cond .linkIsolated _ _))
  exact .trans (t := isolateWash x (offerStatus x { s with ladder := { s.ladder with stage := st } })) .still (isolatedAtPump_moves x _)

theorem returnToLinked_moves : PumpMoves x s (returnToLinked x s) := by
  unfold returnToLinked
  exact .trans .still (setStage_moves x _ _)

theorem ageLadder_moves : PumpMoves x s (ageLadder x s) := by
  unfold ageLadder
  exact .trans .still (setStage_moves x _ _)

theorem enterOperating_moves : PumpMoves x s (enterOperating x s) :=
  .still (by simp [enterOperating]) (by simp [enterOperating]) (by simp [enterOperating]) (by simp [enterOperating])
    (by simp [enterOperating]) (by simp [enterOperating])

theorem adoptHours_moves (h : s.loader.phase = .listening) : PumpMoves x s (adoptHours x s) := by
  refine .trans (.hours (adoptHours x s).pump.runMinutes s (by simp [h])) ?_
  exact .still (by simp [adoptHours]) (by simp [adoptHours]) (by simp [adoptHours]) (by simp [adoptHours]) (by simp [adoptHours])
    (by simp [adoptHours])

theorem countWindow_moves : PumpMoves x s (countWindow x s) := by
  unfold countWindow
  refine .ite (fun h => ?_) fun _ => .refl s
  refine .ite (fun _ => ?_) fun _ => .still
  refine .trans (t := { s with loader := { s.loader with window := s.loader.window + 1 } }) .still ?_
  unfold endListening
  exact .ite (fun _ => .trans (adoptHours_moves x _ h) (.trans (enterOperating_moves x _) (.cond .dutyRecordLost true _)))
    fun _ => enterOperating_moves x _

theorem ageEntries_runningMark : (ageEntries x s).fouling.runningMark = s.fouling.runningMark := by
  unfold ageEntries
  refine foldl_keeps (fun t => t.fouling.runningMark) _ (fun t b => ?_) _ s
  unfold ageEntry fallSilent
  dsimp only
  split_ifs <;> simp

theorem ageingStep_moves : PumpMoves x s (ageingStep x s) := by
  unfold ageingStep
  exact .trans (.still (t := ageOrder x (ageEntries x s)) (hm := by simp [ageEntries_runningMark]))
    (.trans (ageLadder_moves x _) (countWindow_moves x _))

theorem repairFromStatus_moves (b : Bay) (r : Report) : PumpMoves x s (repairFromStatus x b r s) := .still

theorem takeStatus_moves (b : Bay) (p : List Byte) : PumpMoves x s (takeStatus x b p s) := by
  unfold takeStatus
  split
  next r _ =>
    have hs : PumpMoves x s (storeReport b r (restartRemovals x b r s)) := by
      refine .still (hm := ?_)
      unfold restartRemovals
      split <;> simp
    exact .trans hs (.ite (fun _ => .eitherOrder (fun t => repairFromStatus_moves x t b r) (fun t => comparePeer_moves x t b r) _)
      fun _ => repairFromStatus_moves x _ b r)
  next => exact .refl s

theorem applyMasks_moves (o : OrderFields) : PumpMoves x s (applyMasks x o s) := by
  unfold applyMasks
  split
  · exact .eitherOrder (acknowledge_moves x) (fun t => .still) s
  · exact acknowledge_moves x s
  · exact .still
  · exact .refl s

theorem takeOrder_moves (p : List Byte) : PumpMoves x s (takeOrder x p s) := by
  unfold takeOrder
  refine .ite (fun _ => .still) fun _ => ?_
  exact .trans .still (applyMasks_moves x _ _)

theorem bayConflictFound_moves : PumpMoves x s (bayConflictFound x s) := by
  unfold bayConflictFound
  refine .ite (fun _ => .refl s) fun _ => .trans (.cond .bayConflict true s) ?_
  exact .trans (.still (t := conflictAtScreen x (removeClaim x x.bay { setCond x .bayConflict true s with
    link := { (setCond x .bayConflict true s).link with
      tx := .mute, inHand := none, queue := [], accessTimer := none, statusTimer := none } }))) (conflictAtPump_moves x _)

theorem stallRises_moves : PumpMoves x s (stallRises x s) := by
  obtain ⟨hc, -⟩ := stallRises_alarms x s
  exact .still (ht := by rw [hc]; simp [Conds.set]) (hf := by rw [hc]; simp [Conds.set])

theorem heard_moves : PumpMoves x s (returnToLinked x { s with link := { s.link with receiver := .waitIdle } }) := by
  refine .trans .still (returnToLinked_moves x _)

end

/-! ### A step at work -/

/-- The steps that do more with the pump than enter a state: a start, the timers of its supervision, and the RUN contact. -/
inductive PumpSteps (x : Ctx) (s : State) : State → Prop
  | guardStops (now : Clock) : s.pump.state ≠ .startPending →
      PumpSteps x s { s with clock := now, pump := { s.pump with guardTimer := none } }
  | started (now : Clock) : s.pump.state = .startPending →
      PumpSteps x s (enterStarting x { s with clock := now, pump := { s.pump with guardTimer := none } })
  | startTimeout (now : Clock) : PumpSteps x s (issuePulse x .stop (enterFailed x { s with clock := now }))
  | minRun (now : Clock) : PumpSteps x s { s with clock := now, pump := { s.pump with minRunTimer := none } }
  | minStop (now : Clock) : PumpSteps x s { s with clock := now, pump := { s.pump with minStopTimer := none } }
  | ringAge (now : Clock) : PumpSteps x s (dropOldestStart { s with clock := now })
  | minute (now d e : Clock) : s.pump.minuteTimer = some d →
      PumpSteps x s (addMinute { s with clock := now, pump := { s.pump with minuteTimer := some e, minuteAcc := 0 } })
  | run (v : Bool) (t : State) :
      PumpMoves x (noteCounted x (countedRunning s) { s with lines := { s.lines with run := v } }) t → PumpSteps x s t

theorem LiveStep.moves_or {x : Ctx} {s t : State} (h : LiveStep x s t) : PumpMoves x s t ∨ PumpSteps x s t := by
  cases h
  case sample => exact .inl (.trans .still (sampleStep_moves x _ _ _))
  case ageing => exact .inl (.trans .still (ageingStep_moves x _))
  case tide => exact .inl (.trans .still (tideStep_moves x _))
  case stall => exact .inl (.trans .still (stallRises_moves x _))
  case header => exact .inl (.still (ht := by simp [headerFails, Conds.set]) (hf := by simp [headerFails, Conds.set]))
  case retry => exact .inl (.trans .still (.cond .washWaterFail false _))
  case duty => exact .inl (.trans .still (dutyStep_moves x _))
  case guardStops now h => exact .inr (.guardStops now h)
  case guardWithdraws now h => exact .inl (.trans (.still (t := { s with clock := now })) (.withdrawn .stagger _ h))
  case guardStarts now h => exact .inr (.started now h)
  case startTimeout now _ => exact .inr (.startTimeout now)
  case stopFails => exact .inl (.trans .still (.failed _))
  case stopEnds now hp _ => exact .inl (.trans .still (.stopped _ (by simp [hp]) (by simp [hp])))
  case pulseEnds => exact .inl (.trans .still (.cut _))
  case stopPulseEnds now hp _ =>
    exact .inl (.trans (.trans (.still (t := { s with clock := now })) (.cut _)) (.stopped _ (by simp [hp]) (by simp [hp])))
  case minRun now => exact .inr (.minRun now)
  case minStop now => exact .inr (.minStop now)
  case ringAge now => exact .inr (.ringAge now)
  case minute now d e h => exact .inr (.minute now d e h)
  case runCloses => exact .inr (.run true _ (runClosedInState_moves x _))
  case runOpens => exact .inr (.run false _ (runOpenedInState_moves x _))
  case tripCloses l hl _ => exact .inl (.trans (.still (hl := hl)) (.tripped _))
  case tripFails l hl _ _ => exact .inl (.trans (.still (hl := hl)) (.failed _))
  case tripEnds l hl hp _ => exact .inl (.trans (.still (hl := hl)) (.stopped _ (by simp [hp]) (by simp [hp])))
  case localCloses l hl => exact .inl (.trans (.still (hl := hl)) (.locked _))
  case localOpens l hl hp => exact .inl (.trans (.still (t := { s with lines := l }) (hl := hl)) (leaveLocked_moves x _ hp))
  case ack l hl => exact .inl (.trans (.still (hl := hl)) (acknowledge_moves x _))
  case statusFrame => exact .inl (.trans (heard_moves x s) (takeStatus_moves x _ _ _))
  case claimFrame => exact .inl (.trans (heard_moves x s) .still)
  case releaseFrame => exact .inl (.trans (heard_moves x s) .still)
  case orderFrame => exact .inl (.trans (heard_moves x s) (takeOrder_moves x _ _))
  case conflict => exact .inl (.trans .still (bayConflictFound_moves x _))
  case idle l _ hl => exact .inl (.still (hl := hl))
  case headerOpens l hl _ => exact .inl (.still (hl := hl))
  case headerCloses l hl => exact .inl (.still (hl := hl))
  case record l hp _ _ => exact .inl (.still (ho := fun h => hp.trans h))
  case trend => exact .inl (.still (hm := by unfold trendStep; dsimp only; split <;> simp))
  all_goals exact .inl .still

end Sys2Proof.Machine
end

section
/-! PROOF. The laws of the pump: its state with its timers and alarms, counted running, and the start limit, each kept by every move of
the pump; the statements O52, O53 and O54 settled from it. -/

namespace Sys2Proof.Machine

set_option Elab.async false

/-! ### The pump state -/

/-- The pulse and the timers agree with the pump state. -/
structure PumpTimers (p : Pump) : Prop where
  cut      : p.state = .locked ∨ p.state = .tripped → p.pulse = none
  pulse    : p.pulse.isSome = p.pulseTimer.isSome
  guard    : p.guardTimer.isSome = true ↔ p.state = .startPending
  feedback : p.feedbackTimer.isSome = true ↔ p.state = .starting ∨ p.state = .stopping
  minRun   : p.minRunTimer.isSome = true → p.state = .running

/-- PUMP TRIP and PUMP FAIL follow the pump state. -/
structure PumpTells (s : State) : Prop where
  trip : s.conds.pumpTrip = true ↔ s.pump.state = .tripped
  fail : s.conds.pumpFail = true ↔ s.pump.state = .failed

/-- The law of the pump state at work. -/
structure PumpSafe (s : State) : Prop where
  timers : PumpTimers s.pump
  tells  : PumpTells s

theorem setPump_tells {x : Ctx} {p : PumpState} {s : State} (h : PumpTells s) : PumpTells (setPump x p s) := by
  by_cases hp : s.pump.state = p
  · unfold setPump; rwa [if_pos hp]
  · constructor <;> rw [setPump_conds hp] <;> simp

/-- A change of pump state is safe when the timers are those of the new state. -/
theorem setPump_safe {x : Ctx} {p : PumpState} {s : State} (ht : PumpTimers { s.pump with state := p }) (h : PumpTells s) :
    PumpSafe (setPump x p s) := by
  refine ⟨?_, setPump_tells h⟩
  obtain ⟨cut, pulse, guard, feedback, minRun⟩ := ht
  constructor <;> simpa

theorem PumpSafe.of_parts {s t : State} (hs : PumpSafe s) (hp : t.pump = s.pump) (ht : t.conds.pumpTrip = s.conds.pumpTrip)
    (hf : t.conds.pumpFail = s.conds.pumpFail) : PumpSafe t :=
  ⟨hp ▸ hs.timers, ⟨by rw [hp, ht]; exact hs.tells.trip, by rw [hp, hf]; exact hs.tells.fail⟩⟩

/-- Timers that only RUNNING, START_PENDING, or STARTING and STOPPING let run are stopped elsewhere. -/
theorem PumpTimers.stopped_timers {p : Pump} (h : PumpTimers p) :
    (p.state ≠ .startPending → p.guardTimer = none) ∧ (p.state ≠ .running → p.minRunTimer = none) ∧
    (p.state ≠ .starting → p.state ≠ .stopping → p.feedbackTimer = none) := by
  obtain ⟨-, -, guard, feedback, minRun⟩ := h
  refine ⟨fun hp => ?_, fun hp => ?_, fun h1 h2 => ?_⟩ <;> rw [← Option.not_isSome_iff_eq_none]
  · exact fun hs => hp (guard.1 hs)
  · exact fun hs => hp (minRun hs)
  · exact fun hs => (feedback.1 hs).elim h1 h2

/-- Every move of the pump keeps its law. -/
theorem PumpMoves.safe {x : Ctx} {s t : State} (h : PumpMoves x s t) (hs : PumpSafe s) : PumpSafe t := by
  induction h with
  | quiet hp ht hf => exact hs.of_parts hp ht hf
  | cause c s =>
    obtain ⟨⟨cut, pulse, guard, feedback, minRun⟩, htells⟩ := hs
    exact ⟨⟨cut, pulse, guard, feedback, minRun⟩, ⟨htells.trip, htells.fail⟩⟩
  | hours n s _ =>
    obtain ⟨⟨cut, pulse, guard, feedback, minRun⟩, htells⟩ := hs
    exact ⟨⟨cut, pulse, guard, feedback, minRun⟩, ⟨htells.trip, htells.fail⟩⟩
  | cut s =>
    obtain ⟨⟨cut, pulse, guard, feedback, minRun⟩, htells⟩ := hs
    exact ⟨⟨fun _ => rfl, rfl, guard, feedback, minRun⟩, ⟨htells.trip, htells.fail⟩⟩
  | stopped s h1 h2 =>
    obtain ⟨hg, hr, -⟩ := hs.timers.stopped_timers
    refine setPump_safe ⟨by simp, hs.timers.pulse, ?_, by simp, ?_⟩ ⟨hs.tells.trip, hs.tells.fail⟩
    · simp [hg h1]
    · simp [hr h2]
  | stopping s h =>
    obtain ⟨hg, -, -⟩ := hs.timers.stopped_timers
    refine setPump_safe ⟨by simp, by simp [issuePulse], ?_, by simp, by simp⟩ ⟨hs.tells.trip, hs.tells.fail⟩
    simp [issuePulse, hg h]
  | failed s => exact setPump_safe ⟨by simp, hs.timers.pulse, by simp, by simp, by simp⟩ ⟨hs.tells.trip, hs.tells.fail⟩
  | tripped s => exact setPump_safe ⟨by simp, by simp, by simp, by simp, by simp⟩ ⟨hs.tells.trip, hs.tells.fail⟩
  | locked s => exact setPump_safe ⟨by simp, by simp, by simp, by simp, by simp⟩ ⟨hs.tells.trip, hs.tells.fail⟩
  | withdrawn c s h =>
    obtain ⟨-, hr, hf⟩ := hs.timers.stopped_timers
    refine setPump_safe ⟨by simp, hs.timers.pulse, by simp, ?_, ?_⟩ ⟨hs.tells.trip, hs.tells.fail⟩
    · simp [hf (by simp [h]) (by simp [h])]
    · simp [hr (by simp [h])]
  | pending n s h _ =>
    obtain ⟨-, hr, hf⟩ := hs.timers.stopped_timers
    refine setPump_safe ⟨by simp, hs.timers.pulse, by simp, ?_, ?_⟩ ⟨hs.tells.trip, hs.tells.fail⟩
    · simp [hf (by simp [h]) (by simp [h])]
    · simp [hr (by simp [h])]
  | running n s h =>
    obtain ⟨hg, -, -⟩ := hs.timers.stopped_timers
    refine setPump_safe ⟨by simp, hs.timers.pulse, ?_, by simp, by simp⟩ ⟨hs.tells.trip, hs.tells.fail⟩
    simp [hg (by simp [h])]
  | takenOver s h =>
    obtain ⟨hg, -, hf⟩ := hs.timers.stopped_timers
    have h1 : s.pump.state ≠ .startPending := by rcases h with h | h <;> simp [h]
    have h2 : s.pump.state ≠ .starting := by rcases h with h | h <;> simp [h]
    have h3 : s.pump.state ≠ .stopping := by rcases h with h | h <;> simp [h]
    refine setPump_safe ⟨by simp, hs.timers.pulse, ?_, ?_, by simp⟩ ⟨hs.tells.trip, hs.tells.fail⟩
    · simp [hg h1]
    · simp [hf h2 h3]
  | trans _ _ ih1 ih2 => exact ih2 (ih1 hs)

theorem dropOldestStart_pump (s : State) : (dropOldestStart s).pump =
    { s.pump with ring := (dropOldestStart s).pump.ring, ageTimer := (dropOldestStart s).pump.ageTimer } := by
  unfold dropOldestStart
  dsimp only
  split <;> rfl

theorem PumpTimers.of_fields {p q : Pump} (h : PumpTimers p) (h1 : q.state = p.state) (h2 : q.pulse = p.pulse)
    (h3 : q.pulseTimer = p.pulseTimer) (h4 : q.guardTimer = p.guardTimer) (h5 : q.feedbackTimer = p.feedbackTimer)
    (h6 : q.minRunTimer = p.minRunTimer) : PumpTimers q := by
  obtain ⟨cut, pulse, guard, feedback, minRun⟩ := h
  constructor <;> simp only [h1, h2, h3, h4, h5, h6] <;> assumption

theorem PumpSteps.safe {x : Ctx} {s t : State} (h : PumpSteps x s t) (hs : PumpSafe s) : PumpSafe t := by
  obtain ⟨⟨cut, pulse, guard, feedback, minRun⟩, htells⟩ := hs
  have htells' (u : State) (hp : u.pump.state = s.pump.state) (hc : u.conds = s.conds) : PumpTells u :=
    ⟨by rw [hp, hc]; exact htells.trip, by rw [hp, hc]; exact htells.fail⟩
  cases h with
  | guardStops now h => exact ⟨⟨cut, pulse, by simp [h], feedback, minRun⟩, htells' _ rfl rfl⟩
  | started now h =>
    have hr : s.pump.minRunTimer = none := by
      rw [← Option.not_isSome_iff_eq_none]
      exact fun hs => by simp [h] at minRun; simp [minRun] at hs
    refine (protectOnEntry_moves x _ (by simp)).safe (setPump_safe ?_ (htells' _ rfl rfl))
    exact ⟨by simp, by simp [recordStart, issuePulse], by simp [recordStart, issuePulse], by simp, by simp [recordStart, issuePulse, hr]⟩
  | startTimeout now =>
    obtain ⟨⟨-, -, guard', feedback', minRun'⟩, htells''⟩ := (PumpMoves.failed (x := x) { s with clock := now }).safe
      ⟨⟨cut, pulse, guard, feedback, minRun⟩, htells' _ rfl rfl⟩
    refine ⟨⟨?_, by simp, guard', feedback', minRun'⟩, ⟨htells''.trip, htells''.fail⟩⟩
    simp [enterFailed]
  | minRun now => exact ⟨⟨cut, pulse, guard, feedback, by simp⟩, htells' _ rfl rfl⟩
  | minStop now => exact ⟨⟨cut, pulse, guard, feedback, minRun⟩, htells' _ rfl rfl⟩
  | ringAge now =>
    have hp := dropOldestStart_pump { s with clock := now }
    refine ⟨?_, htells' _ (by rw [hp]) (by simp)⟩
    rw [hp]
    exact ⟨cut, pulse, guard, feedback, minRun⟩
  | minute now d e _ =>
    have hp := addMinute_pump_kept { s with clock := now, pump := { s.pump with minuteTimer := some e, minuteAcc := 0 } }
    refine ⟨?_, htells' _ (by rw [hp]) (by simp)⟩
    rw [hp]
    exact ⟨cut, pulse, guard, feedback, minRun⟩
  | run v t hm =>
    have hc := (noteCounted_pumpOnly x (countedRunning s) { s with lines := { s.lines with run := v } }).conds
    refine hm.safe ⟨?_, htells' _ (by simp) (by simp)⟩
    exact PumpTimers.of_fields (p := s.pump) ⟨cut, pulse, guard, feedback, minRun⟩ (by simp) (by simp) (by simp) (by simp) (by simp)
      (by simp)

theorem PumpLaw.safe {s : State} (h : PumpLaw s) : PumpSafe s :=
  ⟨⟨h.cut, h.pulse, h.guard, h.feedback, h.minRun⟩, ⟨h.trip, h.fail⟩⟩

theorem PumpLaw.of_safe {s : State} (hl : ResetLoads s) (h : PumpSafe s) (hr : atRest s → s.pump.state = .stopped ∧ s.pump.pulse = none) :
    PumpLaw s :=
  ⟨hl, h.timers.cut, h.timers.pulse, h.tells.trip, h.tells.fail, h.timers.guard, h.timers.feedback, h.timers.minRun, hr⟩

theorem listening_pumpSafe {x : Ctx} {s : State} (record : List Byte) (hs : PumpSafe s) (hp : s.pump.state = .stopped)
    (hc : s.pump.pulse = none) : PumpSafe (enterListening x (adopt x.cfg (recordTaken record s))) := by
  obtain ⟨hg, -, hf⟩ := hs.timers.stopped_timers
  have hfail : s.conds.pumpFail = false := by
    have hf := hs.tells.fail
    rw [hp] at hf
    simpa using hf
  have hpulse := hs.timers.pulse
  have hstates : adoptedState s.lines ≠ .startPending ∧ adoptedState s.lines ≠ .starting ∧ adoptedState s.lines ≠ .stopping ∧
      adoptedState s.lines ≠ .failed := by
    unfold adoptedState
    split_ifs <;> simp
  refine ⟨⟨?_, ?_, ?_, ?_, ?_⟩, ⟨?_, ?_⟩⟩ <;> simp [adopt, hc, hg (by simp [hp]), hf (by simp [hp]) (by simp [hp]), hstates, hfail]
  simpa [hc] using hpulse

theorem PumpLaw.step {s t : State} (hs : PumpLaw s) (h : step s = .next t) : PumpLaw t := by
  refine step_keeps (P := PumpLaw) ?_ ?_ ?_ ?_ ?_ hs h
  · exact fun s q h => .of_safe h.loads (h.safe.of_parts rfl rfl rfl) h.rest
  · exact fun s c h => .of_safe h.loads (h.safe.of_parts rfl rfl rfl) h.rest
  · intro s
    constructor <;> simp [resetStation, ResetLoads, Loader.reset, Pump.reset, Conds.reset]
  · intro x s t hs hx hl
    refine .of_safe (resetLoads_of_ctx (hl.ctx hx)) ?_ fun hr => absurd hr (not_atRest_of_ctx (hl.ctx hx))
    rcases hl.moves_or with hm | hm
    · exact hm.safe hs.safe
    · exact hm.safe hs.safe
  · refine fun s t hs hx hr => hr.keeps (fun _ h => h.loads) ?_ ?_ ?_ hs hx
    · exact fun s l r h _ => .of_safe h.loads (h.safe.of_parts rfl rfl rfl) h.rest
    · exact fun s r l w h hrest hp hr _ => .of_safe hr (h.safe.of_parts rfl rfl rfl) fun _ => h.rest hrest
    · exact fun s x record hs hrest _ hx => .of_safe (resetLoads_of_ctx hx)
        (listening_pumpSafe record hs.safe (hs.rest hrest).1 (hs.rest hrest).2) fun hr => absurd hr (not_atRest_of_ctx hx)

/-- Settles O52: each entry to a pump state sets the timers and the pulse that go with it. -/
theorem everyStepKeepsThePumpLaw : Obligations.EveryStepKeepsThePumpLaw := by
  intro s t hs h
  have ht := hs.step h
  refine ⟨ht, by simp [outputs], by simp [outputs], ?_, fun hp => ?_⟩
  · simp only [outputs, decide_eq_true_eq]
    rintro ⟨h1, h2⟩
    simp [h1] at h2
  · simp [outputs, ht.cut hp]

/-! ### Counted running -/

/-- The law of counted running at work. -/
structure CountedOk (s : State) : Prop where
  minute : s.pump.minuteTimer.isSome = countedRunning s
  mark   : s.fouling.runningMark = countedRunning s
  acc    : s.pump.minuteAcc < 60000

theorem CountedOk.of_parts {s t : State} (hs : CountedOk s) (h1 : t.pump.minuteTimer = s.pump.minuteTimer)
    (h2 : countedRunning t = countedRunning s) (h3 : t.fouling.runningMark = s.fouling.runningMark)
    (h4 : t.pump.minuteAcc = s.pump.minuteAcc) : CountedOk t :=
  ⟨by rw [h1, h2]; exact hs.minute, by rw [h2, h3]; exact hs.mark, h4 ▸ hs.acc⟩

theorem addMinute_fields (s : State) : (addMinute s).pump.minuteTimer = s.pump.minuteTimer ∧
    (addMinute s).pump.minuteAcc = s.pump.minuteAcc ∧ countedRunning (addMinute s) = countedRunning s := by
  have hp := addMinute_pump_kept s
  exact ⟨by rw [hp], by rw [hp], by unfold countedRunning; rw [hp]; simp⟩

/-- The end of counted running stops the minute timer and leaves less than a minute in the accumulator. -/
theorem stopMinutes_fields (s : State) (h : s.pump.minuteAcc < 60000) : (stopMinutes s).pump.minuteTimer = none ∧
    (stopMinutes s).pump.minuteAcc < 60000 ∧ countedRunning (stopMinutes s) = countedRunning s := by
  unfold stopMinutes
  split
  next d hd =>
    dsimp only
    split
    next hfull =>
      obtain ⟨h1, h2, h3⟩ := addMinute_fields { s with pump := { s.pump with minuteTimer := none, minuteAcc := 0 } }
      exact ⟨h1, by rw [h2]; simp, h3⟩
    next hpart => exact ⟨rfl, by show (accumulated d s.clock).toNat < 60000; omega, rfl⟩
  next hn => exact ⟨hn, h, rfl⟩

theorem requestWrite_ok {s : State} (h : CountedOk s) : CountedOk (requestWrite s) :=
  h.of_parts (by simp) (by simp [countedRunning]) (by simp) (by simp)

theorem stopMinutes_ok {s : State} (hc : countedRunning s = false) (hm : s.fouling.runningMark = false)
    (ha : s.pump.minuteAcc < 60000) : CountedOk (stopMinutes s) := by
  obtain ⟨ht, ha', hr⟩ := stopMinutes_fields s ha
  exact ⟨by rw [ht, hr, hc]; rfl, by rw [hr, hc]; simpa using hm, ha'⟩

/-- A change of counted running handed on restores its law. -/
theorem noteCounted_ok {x : Ctx} {was : Bool} {s : State} (h1 : s.pump.minuteTimer.isSome = was) (h2 : s.fouling.runningMark = was)
    (h3 : s.pump.minuteAcc < 60000) : CountedOk (noteCounted x was s) := by
  unfold noteCounted
  split
  next h => exact ⟨h1.trans h.symm, h2.trans h.symm, h3⟩
  next =>
    unfold countedChanged
    dsimp only
    split
    next hc => exact ⟨hc.symm, rfl, h3⟩
    next hc =>
      have hc' : countedRunning s = false := by simpa using hc
      exact requestWrite_ok (stopMinutes_ok hc' hc' h3)

theorem setPump_ok {x : Ctx} {p : PumpState} {s : State} (h : CountedOk s) : CountedOk (setPump x p s) := by
  unfold setPump
  split
  · exact h
  · refine CountedOk.of_parts (s := noteCounted x (countedRunning s) (offerStatus x { s with pump := { s.pump with state := p } }))
      (noteCounted_ok (by simpa using h.minute) (by simpa using h.mark) (by simpa using h.acc)) ?_ ?_ ?_ ?_ <;> simp [countedRunning]

theorem PumpMoves.counted {x : Ctx} {s t : State} (h : PumpMoves x s t) (hs : CountedOk s) : CountedOk t := by
  induction h with
  | quiet hp _ _ hl hm => exact hs.of_parts (by rw [hp]) (by unfold countedRunning; rw [hp, hl]) hm (by rw [hp])
  | cause | hours | cut => exact hs.of_parts rfl rfl rfl rfl
  | trans _ _ ih1 ih2 => exact ih2 (ih1 hs)
  | stopped s | stopping s | failed s | tripped s | locked s | withdrawn _ s | pending _ s | running _ s | takenOver s =>
    exact setPump_ok (hs.of_parts rfl rfl rfl rfl)

theorem PumpSteps.counted {x : Ctx} {s t : State} (h : PumpSteps x s t) (hs : CountedOk s) : CountedOk t := by
  cases h with
  | guardStops | minRun | minStop => exact hs.of_parts rfl rfl rfl rfl
  | started now h => exact (protectOnEntry_moves x _ (by simp)).counted (setPump_ok (hs.of_parts rfl rfl rfl rfl))
  | startTimeout now =>
    exact ((PumpMoves.failed (x := x) { s with clock := now }).counted (hs.of_parts rfl rfl rfl rfl)).of_parts rfl rfl rfl rfl
  | ringAge now =>
    have hp := dropOldestStart_pump { s with clock := now }
    exact hs.of_parts (by rw [hp]) (by unfold countedRunning; rw [hp]; simp) (by simp) (by rw [hp])
  | minute now d e hd =>
    obtain ⟨h1, h2, h3⟩ := addMinute_fields
      { s with clock := now, pump := { s.pump with minuteTimer := some e, minuteAcc := 0 } }
    have hc : true = countedRunning s := by simpa [hd] using hs.minute
    exact ⟨by rw [h1, h3]; exact hc, by rw [h3]; simp only [addMinute_frame]; exact hs.mark, by rw [h2]; simp⟩
  | run v t hm => exact hm.counted (noteCounted_ok hs.minute hs.mark hs.acc)

theorem CountedLaw.ok {s : State} {x : Ctx} (h : CountedLaw s) (hx : ctx? s = some x) : CountedOk s :=
  ⟨h.minute (by simp [hx]), h.mark (by simp [hx]), h.acc⟩

theorem CountedLaw.of_ok {s : State} {x : Ctx} (hx : ctx? s = some x) (h : CountedOk s) : CountedLaw s :=
  ⟨resetLoads_of_ctx hx, fun _ => h.minute, fun _ => h.mark, h.acc, fun hr => absurd hr (not_atRest_of_ctx hx)⟩

/-- Settles O53: a change of the pump state or of RUN hands a change of counted running on, which moves the minute timer and the mark. -/
theorem everyStepKeepsTheCountedLaw : Obligations.EveryStepKeepsTheCountedLaw := by
  intro s t hs h
  refine step_keeps (P := CountedLaw) ?_ ?_ ?_ ?_ ?_ hs h
  · exact fun s q h => ⟨h.loads, h.minute, h.mark, h.acc, h.rest⟩
  · exact fun s c h => ⟨h.loads, h.minute, h.mark, h.acc, h.rest⟩
  · intro s
    constructor <;> simp [resetStation, ResetLoads, Loader.reset, Pump.reset, ctx?]
  · intro x s t hs hx hl
    refine .of_ok (hl.ctx hx) ?_
    rcases hl.moves_or with hm | hm
    · exact hm.counted (hs.ok hx)
    · exact hm.counted (hs.ok hx)
  · refine fun s t hs hx hr => hr.keeps (fun _ h => h.loads) ?_ ?_ ?_ hs hx
    · intro s l r h hx
      have hx' : ctx? { s with lines := l, link := { s.link with receiver := r } } = none := hx
      exact ⟨h.loads, fun hc => by simp [hx'] at hc, fun hc => by simp [hx'] at hc, h.acc, h.rest⟩
    · intro s r l w h hrest hp hr _
      have hx : ctx? { s with inReset := r, loader := l, screen := { s.screen with working := w } } = none := ctx?_of_rest hp
      exact ⟨hr, fun hc => by simp [hx] at hc, fun hc => by simp [hx] at hc, h.acc, fun _ => h.rest hrest⟩
    · intro s x record hs hrest _ hx
      have hacc := hs.acc
      have hcr : countedRunning (enterListening x (adopt x.cfg (recordTaken record s))) =
          countedRunning (adopt x.cfg (recordTaken record s)) := by simp [countedRunning]
      refine .of_ok hx ⟨?_, by rw [hcr]; simp, by simpa [adopt] using hacc⟩
      rw [hcr]
      cases hc : countedRunning (adopt x.cfg (recordTaken record s))
      · simp only [enterListening_frame, hc]
        simp [adopt, hs.rest hrest]
      · simp only [enterListening_frame, hc]
        simp

/-! ### The start limit -/

/-- The start limit at work: a pending start leaves room for one more. -/
structure StartOk (x : Ctx) (s : State) : Prop where
  limit   : startsInLastHour s ≤ x.cfg.startLimit
  pending : s.pump.state = .startPending → startsInLastHour s < x.cfg.startLimit

theorem startsInLastHour_congr {s t : State} (h : t.pump.ring = s.pump.ring) : startsInLastHour t = startsInLastHour s := by
  unfold startsInLastHour; rw [h]

theorem StartOk.of_ring {x : Ctx} {s t : State} (hs : StartOk x s) (hr : t.pump.ring = s.pump.ring)
    (hp : t.pump.state = .startPending → s.pump.state = .startPending) : StartOk x t :=
  ⟨by rw [startsInLastHour_congr hr]; exact hs.limit, fun h => by rw [startsInLastHour_congr hr]; exact hs.pending (hp h)⟩

theorem PumpMoves.startOk {x : Ctx} {s t : State} (h : PumpMoves x s t) (hs : StartOk x s) : StartOk x t := by
  induction h with
  | quiet hp => exact hs.of_ring (by rw [hp]) (by rw [hp]; exact id)
  | cause | hours | cut => exact hs.of_ring rfl id
  | trans _ _ ih1 ih2 => exact ih2 (ih1 hs)
  | pending n s _ hn =>
    have hr : startsInLastHour (setPump x .startPending { s with pump := { s.pump with guardTimer := ahead s n } }) =
        startsInLastHour s := startsInLastHour_congr (by simp)
    exact ⟨hr ▸ hs.limit, fun _ => hr ▸ hn⟩
  | stopped s => exact hs.of_ring (by simp [enterStopped]) (by simp [enterStopped])
  | stopping s => exact hs.of_ring (by simp [enterStopping]) (by simp [enterStopping])
  | failed s => exact hs.of_ring (by simp [enterFailed]) (by simp [enterFailed])
  | tripped s => exact hs.of_ring (by simp [enterTripped]) (by simp [enterTripped])
  | locked s => exact hs.of_ring (by simp [enterLocked]) (by simp [enterLocked])
  | withdrawn c s => exact hs.of_ring (by simp [withdrawStart]) (by simp [withdrawStart])
  | running n s | takenOver s => exact hs.of_ring (by simp) (by simp)

/-- A write to one slot changes the count of the filled slots by what it writes and what it replaces. -/
theorem countP_set_isSome {α : Type} {n : Nat} (v : Vector (Option α) n) (i : Fin n) (e : Option α) :
    (v.set i e).toList.countP Option.isSome + (if v[i].isSome then 1 else 0) =
      v.toList.countP Option.isSome + (if e.isSome then 1 else 0) := by
  have hlen : i.val < v.toList.length := by simp
  have hpos : v[i].isSome = true → 0 < v.toList.countP Option.isSome := fun h =>
    List.countP_pos_iff.2 ⟨v[i], by simp, h⟩
  rw [Vector.toList_set, List.countP_set hlen, Vector.getElem_toList]
  by_cases h : v[i.val].isSome = true
  · have := hpos h
    simp only [Fin.getElem_fin, h, if_true]
    omega
  · simp [h]

/-- A start recorded is one more at the most. -/
theorem recordStart_starts_le (s : State) : startsInLastHour (recordStart s) ≤ startsInLastHour s + 1 := by
  have h := countP_set_isSome s.pump.ring s.pump.pointer (some s.clock)
  unfold startsInLastHour recordStart
  simp only [Option.isSome_some, if_true] at h
  exact Nat.le_of_add_right_le h.le

/-- The start emptied out of the ring is no longer counted. -/
theorem dropOldestStart_starts_le (s : State) : startsInLastHour (dropOldestStart s) ≤ startsInLastHour s := by
  unfold dropOldestStart
  split
  next i _ =>
    have h := countP_set_isSome s.pump.ring i none
    simp only [Option.isSome_none, Bool.false_eq_true, if_false, Nat.add_zero] at h
    exact Nat.le_of_add_right_le h.le
  next => exact le_rfl

theorem PumpSteps.startOk {x : Ctx} {s t : State} (h : PumpSteps x s t) (hs : StartOk x s) : StartOk x t := by
  cases h with
  | guardStops | minRun | minStop => exact hs.of_ring rfl id
  | started now h =>
    refine (protectOnEntry_moves x _ (by simp)).startOk ⟨?_, by simp⟩
    have hle := recordStart_starts_le
      (issuePulse x .start { s with clock := now, pump := { s.pump with guardTimer := none } })
    have hlt := hs.pending h
    exact (startsInLastHour_congr (by simp)).trans_le (hle.trans hlt)
  | startTimeout now => exact hs.of_ring (by simp [enterFailed]) (by simp [enterFailed])
  | ringAge now =>
    have hle := dropOldestStart_starts_le { s with clock := now }
    have hp := dropOldestStart_pump { s with clock := now }
    exact ⟨hle.trans hs.limit, fun h => hle.trans_lt (hs.pending (by rw [hp] at h; exact h))⟩
  | minute now d e _ =>
    have hp := addMinute_pump_kept { s with clock := now, pump := { s.pump with minuteTimer := some e, minuteAcc := 0 } }
    exact hs.of_ring (by rw [hp]) (by rw [hp]; exact id)
  | run v t hm => exact hm.startOk (hs.of_ring (by simp) (by simp))

theorem StartLaw.ok {s : State} {x : Ctx} (h : StartLaw s) (hx : ctx? s = some x) : StartOk x s := ⟨h.limit x hx, h.pending x hx⟩

theorem StartLaw.of_ok {s : State} {x : Ctx} (hx : ctx? s = some x) (h : StartOk x s) : StartLaw s :=
  ⟨resetLoads_of_ctx hx, forall_ctx hx h.limit, forall_ctx hx h.pending, fun hr => absurd hr (not_atRest_of_ctx hx)⟩

/-- Settles O54: a start is recorded out of START_PENDING alone, which is entered with room for one more and left with the ring as it was. -/
theorem everyStepKeepsTheStartLimit : Obligations.EveryStepKeepsTheStartLimit := by
  intro s t hs h
  refine step_keeps (P := StartLaw) ?_ ?_ ?_ ?_ ?_ hs h
  · exact fun s q h => ⟨h.loads, h.limit, h.pending, h.rest⟩
  · exact fun s c h => ⟨h.loads, h.limit, h.pending, h.rest⟩
  · exact fun s => ⟨fun _ => rfl, fun x hx => by simp [ctx?, resetStation, Loader.reset] at hx,
      fun x hx => by simp [ctx?, resetStation, Loader.reset] at hx, fun _ => ⟨rfl, rfl⟩⟩
  · intro x s t hs hx hl
    refine .of_ok (hl.ctx hx) ?_
    rcases hl.moves_or with hm | hm
    · exact hm.startOk (hs.ok hx)
    · exact hm.startOk (hs.ok hx)
  · refine fun s t hs hx hr => hr.keeps (fun _ h => h.loads) ?_ ?_ ?_ hs hx
    · exact fun s l r h _ => ⟨h.loads, h.limit, h.pending, h.rest⟩
    · intro s r l w h hrest hp hr _
      have hx : ctx? { s with inReset := r, loader := l, screen := { s.screen with working := w } } = none := ctx?_of_rest hp
      exact ⟨hr, fun x hc => by simp [hx] at hc, fun x hc => by simp [hx] at hc, fun _ => h.rest hrest⟩
    · intro s x record hs hrest _ hx
      have hring : startsInLastHour (enterListening x (adopt x.cfg (recordTaken record s))) = 0 :=
        (startsInLastHour_congr (by simp [adopt])).trans (hs.rest hrest).1
      refine .of_ok hx ⟨by simp [hring], fun hp => absurd hp ?_⟩
      have hstate : (enterListening x (adopt x.cfg (recordTaken record s))).pump.state = adoptedState s.lines := by simp [adopt]
      rw [hstate]
      unfold adoptedState
      split_ifs <;> simp

end Sys2Proof.Machine
end

section
/-! PROOF. Which conditions a block's operation judges (`CondsOnly`), and the isolation ladder: the statement O56. -/

namespace Sys2Proof.Machine

set_option Elab.async false

/-! ### The conditions an operation judges -/

/-- No condition but those listed has moved. -/
def CondsOnly (A : List Alarm) (s t : State) : Prop := ∀ a ∉ A, t.conds.get a = s.conds.get a

namespace CondsOnly

variable {A B : List Alarm} {s t u : State}

theorem of_eq (h : t.conds = s.conds := by simp) : CondsOnly A s t := fun a _ => by rw [h]

theorem refl (s : State) : CondsOnly A s s := .of_eq rfl

theorem trans (h : CondsOnly A s t) (k : CondsOnly A t u) : CondsOnly A s u := fun a ha => (k a ha).trans (h a ha)

theorem mono (h : CondsOnly A s t) (hsub : A ⊆ B := by decide) : CondsOnly B s t := fun a ha => h a fun hm => ha (hsub hm)

theorem cond {x : Ctx} (a : Alarm) (v : Bool) (s : State) (ha : a ∈ A := by decide) : CondsOnly A s (setCond x a v s) := fun b hb => by
  rw [setCond_conds]
  exact Conds.get_set_of_ne s.conds v fun hab => hb (hab ▸ ha)

theorem ite {c : Prop} [Decidable c] (h1 : c → CondsOnly A s t) (h2 : ¬c → CondsOnly A s u) :
    CondsOnly A s (if c then t else u) := by
  split
  next h => exact h1 h
  next h => exact h2 h

theorem eitherOrder {first second : State → State} (h1 : ∀ s, CondsOnly A s (first s)) (h2 : ∀ s, CondsOnly A s (second s))
    (s : State) : CondsOnly A s (eitherOrder first second s) := by
  have hc : CondsOnly A s { s with choices := s.choices + 1 } := .of_eq rfl
  rcases eitherOrder_cases first second s with h | h <;> rw [h]
  · exact .trans hc (.trans (h1 _) (h2 _))
  · exact .trans hc (.trans (h2 _) (h1 _))

/-- What follows the pump state alone. -/
theorem of_pumpOnly (h : PumpOnly s t) (hA : [.pumpTrip, .pumpFail] ⊆ A := by decide) : CondsOnly A s t := fun a ha => by
  have h1 : a ≠ .pumpTrip := fun e => ha (hA (by simp [e]))
  have h2 : a ≠ .pumpFail := fun e => ha (hA (by simp [e]))
  rw [h.conds]
  cases a
  case pumpTrip => exact absurd rfl h1
  case pumpFail => exact absurd rfl h2
  all_goals rfl

theorem linkIsolated (h : CondsOnly A s t) (ha : Alarm.linkIsolated ∉ A := by decide) :
    t.conds.linkIsolated = s.conds.linkIsolated := h _ ha

end CondsOnly

theorem PumpOnly.linkIsolated {s t : State} (h : PumpOnly s t) : t.conds.linkIsolated = s.conds.linkIsolated := by
  rw [h.conds]

/-- The conditions are told by their alarms. -/
theorem Conds.ext_get {c d : Conds} (h : ∀ a, c.get a = d.get a) : c = d := by
  have h1 := h .lowLow; have h2 := h .low; have h3 := h .high; have h4 := h .highHigh; have h5 := h .surge
  have h6 := h .levelUnknown; have h7 := h .outerSensor; have h8 := h .innerSensor; have h9 := h .suctionLow
  have h10 := h .pumpTrip; have h11 := h .pumpFail; have h12 := h .screenBlocked; have h13 := h .screenStall
  have h14 := h .washWaterFail; have h15 := h .linkIsolated; have h16 := h .bayConflict; have h17 := h .dutyRecordLost
  cases c; cases d
  simp_all [Conds.get]

section
variable (x : Ctx) (s : State)

theorem isolatedAtPump_pumpOnly : PumpOnly s (isolatedAtPump x s) := by
  unfold isolatedAtPump
  split
  · exact withdrawStart_pumpOnly x _ s
  · exact .refl s

theorem handWish_pumpOnly : PumpOnly s (handWish x s) := by
  unfold handWish
  split
  · split
    · exact .of_eq rfl rfl rfl
    · exact takeStartWish_pumpOnly x s
  · split
    · exact takeStopWish_pumpOnly x s
    · exact .refl s
  all_goals exact .refl s

theorem dutyStep_pumpOnly : PumpOnly s (dutyStep x s) := by
  unfold dutyStep
  refine PumpOnly.trans ?_ (handWish_pumpOnly x _)
  exact .of_eq rfl rfl rfl

/-- The conditions a pair judges: its own and SCREEN BLOCKED, with those that follow the pump state. -/
def pairConds : List Alarm := [.innerSensor, .outerSensor, .suctionLow, .screenBlocked, .pumpTrip, .pumpFail]

theorem blockedChanged_condsOnly (v : Bool) : CondsOnly pairConds s (blockedChanged x v s) :=
  .trans (.cond .screenBlocked v s) (.ite (fun _ => .of_pumpOnly (protectiveStop_pumpOnly x _ _)) fun _ => .refl _)

theorem foulingUpdate_condsOnly : CondsOnly pairConds s (foulingUpdate x s) := by
  unfold foulingUpdate
  refine .ite (fun _ => .of_eq) fun _ => ?_
  exact .trans .of_eq (.eitherOrder (fun t => .of_eq) (fun t => blockedChanged_condsOnly x t _) _)

theorem suctionChanged_condsOnly (v : Bool) : CondsOnly pairConds s (suctionChanged x v s) :=
  .trans (.cond .suctionLow v s) (.ite (fun _ => .of_pumpOnly (protectiveStop_pumpOnly x _ _)) fun _ => .refl _)

theorem deliverPair_condsOnly : CondsOnly pairConds s (deliverPair x s) :=
  .ite (fun _ => foulingUpdate_condsOnly x s) fun _ =>
    .eitherOrder (foulingUpdate_condsOnly x) (fun t => suctionChanged_condsOnly x t _) s

theorem sampleStep_condsOnly (o i : Nat) : CondsOnly pairConds s (sampleStep x o i s) := by
  unfold sampleStep
  exact .trans (.of_eq (t := sampledLoops x o i s)) (.trans (.cond .innerSensor _ _) (.trans (.cond .outerSensor _ _)
    (.trans (.of_pumpOnly (checkPending_pumpOnly x _)) (deliverPair_condsOnly x _))))

/-- The conditions the tide monitor judges. -/
def tideConds : List Alarm := [.lowLow, .low, .high, .highHigh, .surge, .levelUnknown, .outerSensor]

theorem tideStep_condsOnly : CondsOnly tideConds s (tideStep x s) := by
  unfold tideStep
  extract_lets t r u w d
  have hu : CondsOnly tideConds s u := .trans (.of_eq (by simp [t])) (.trans (.cond .lowLow _ _) (.trans (.cond .low _ _)
    (.trans (.cond .high _ _) (.trans (.cond .highHigh _ _) (.trans (.cond .surge _ _) (.cond .levelUnknown _ _))))))
  have hw : CondsOnly tideConds u w := .ite (fun _ => .refl u) fun _ => .cond .outerSensor _ u
  have hd : CondsOnly tideConds w d := .ite (fun _ => .refl w) fun _ => .of_eq
  exact hu.trans (hw.trans (hd.trans (.ite (fun _ => .refl d) fun _ => .of_eq)))

/-- The conditions an acknowledge ends, with PUMP TRIP, which follows the pump state. -/
def ackConds : List Alarm := [.screenStall, .dutyRecordLost, .pumpTrip, .pumpFail]

theorem acknowledge_condsOnly : CondsOnly ackConds s (acknowledge x s) := by
  unfold acknowledge
  refine .trans (t := ackEntries x s) .of_eq (.trans (.of_pumpOnly (ackAtPump_pumpOnly x _)) (.trans ?_ (.cond (x := x) .dutyRecordLost false _)))
  exact .ite (fun _ => .trans (.cond (x := x) .screenStall false _) .of_eq) fun _ => .refl _

/-- The conditions a change of stage moves. -/
def stageConds : List Alarm := [.linkIsolated, .pumpTrip, .pumpFail]

theorem setStage_condsOnly (st : Stage) : CondsOnly stageConds s (setStage x st s) := by
  unfold setStage
  refine .ite (fun _ => .refl s) fun _ => .trans (t := offerStatus x { s with ladder := { s.ladder with stage := st } }) .of_eq
    (.trans (.ite (fun _ => ?_) fun _ => .refl _) (.cond .linkIsolated _ _))
  exact .trans (t := isolateWash x (offerStatus x { s with ladder := { s.ladder with stage := st } })) .of_eq
    (.of_pumpOnly (isolatedAtPump_pumpOnly x _))

theorem returnToLinked_condsOnly : CondsOnly stageConds s (returnToLinked x s) := by
  unfold returnToLinked
  exact .trans .of_eq (setStage_condsOnly x _ _)

theorem ageLadder_condsOnly : CondsOnly stageConds s (ageLadder x s) := by
  unfold ageLadder
  exact .trans .of_eq (setStage_condsOnly x _ _)

theorem countWindow_condsOnly : CondsOnly [.dutyRecordLost] s (countWindow x s) := by
  unfold countWindow endListening
  refine .ite (fun _ => .ite (fun _ => .ite (fun _ => ?_) fun _ => ?_) fun _ => .of_eq rfl) fun _ => .refl s
  · exact .trans (t := enterOperating x (adoptHours x { s with loader := { s.loader with window := s.loader.window + 1 } }))
      (.of_eq (by simp [enterOperating, adoptHours])) (.cond .dutyRecordLost _ _)
  · exact .of_eq (by simp [enterOperating])

/-- The conditions an ageing expiry moves. -/
def ageingConds : List Alarm := [.linkIsolated, .pumpTrip, .pumpFail, .dutyRecordLost]

theorem ageingStep_condsOnly : CondsOnly ageingConds s (ageingStep x s) := by
  unfold ageingStep
  exact .trans (.of_eq (t := ageOrder x (ageEntries x s))) (.trans (ageLadder_condsOnly x _).mono (countWindow_condsOnly x _).mono)

theorem takeStatus_condsOnly (b : Bay) (p : List Byte) : CondsOnly [.pumpTrip, .pumpFail] s (takeStatus x b p s) := by
  unfold takeStatus
  split
  next r _ =>
    refine .trans (t := storeReport b r (restartRemovals x b r s)) .of_eq ?_
    exact .ite (fun _ => .eitherOrder (fun t => .of_eq) (fun t => .of_pumpOnly (comparePeer_pumpOnly x b r t)) _) fun _ => .of_eq
  next => exact .refl s

theorem applyMasks_condsOnly (o : OrderFields) : CondsOnly ackConds s (applyMasks x o s) := by
  unfold applyMasks
  split
  · exact .eitherOrder (acknowledge_condsOnly x) (fun t => .of_eq) s
  · exact acknowledge_condsOnly x s
  · exact .of_eq
  · exact .refl s

theorem takeOrder_condsOnly (p : List Byte) : CondsOnly ackConds s (takeOrder x p s) := by
  unfold takeOrder
  extract_lets o t r
  refine .ite (fun _ => .of_eq rfl) fun _ => ?_
  refine .trans ?_ (applyMasks_condsOnly x _ o)
  exact .of_eq rfl

theorem bayConflictFound_condsOnly : CondsOnly [.bayConflict, .pumpTrip, .pumpFail] s (bayConflictFound x s) := by
  unfold bayConflictFound
  extract_lets t l u
  refine .ite (fun _ => .refl s) fun _ => ?_
  have ht : CondsOnly [.bayConflict, .pumpTrip, .pumpFail] s t := .cond .bayConflict true s
  have hu : CondsOnly [.bayConflict, .pumpTrip, .pumpFail] t (conflictAtScreen x (removeClaim x x.bay u)) := .of_eq (by simp [u])
  exact (ht.trans hu).trans (.of_pumpOnly (conflictAtPump_pumpOnly x _))

end

/-- The conditions a step at work that leaves the ladder alone does not move. -/
theorem LiveStep.ladder_or {x : Ctx} {s t : State} (h : LiveStep x s t) :
    (t.ladder = s.ladder ∧ t.conds.linkIsolated = s.conds.linkIsolated) ∨
    (∃ (u : State) (d : Timer), u.ladder = s.ladder ∧ u.conds = s.conds ∧ t = ageingStep x { u with ageingTimer := d }) ∨
    ∃ u v : State, u.ladder = s.ladder ∧ u.conds = s.conds ∧ v = returnToLinked x u ∧ t.ladder = v.ladder ∧
      t.conds.linkIsolated = v.conds.linkIsolated := by
  cases h
  case ageing now d => exact .inr (.inl ⟨{ s with clock := now }, d, rfl, rfl, rfl⟩)
  case statusFrame b p _ =>
    exact .inr (.inr ⟨{ s with link := { s.link with receiver := .waitIdle } }, _, rfl, rfl, rfl, by simp, (takeStatus_condsOnly x _ b p).linkIsolated⟩)
  case claimFrame => exact .inr (.inr ⟨{ s with link := { s.link with receiver := .waitIdle } }, _, rfl, rfl, rfl, by simp, by simp⟩)
  case releaseFrame => exact .inr (.inr ⟨{ s with link := { s.link with receiver := .waitIdle } }, _, rfl, rfl, rfl, by simp, by simp⟩)
  case orderFrame p =>
    exact .inr (.inr ⟨{ s with link := { s.link with receiver := .waitIdle } }, _, rfl, rfl, rfl, by simp, (takeOrder_condsOnly x _ p).linkIsolated⟩)
  case sample now d o i => exact .inl ⟨by simp, (sampleStep_condsOnly x _ o i).linkIsolated⟩
  case tide now d => exact .inl ⟨by simp, (tideStep_condsOnly x _).linkIsolated⟩
  case stall now _ =>
    refine .inl ⟨by simp, ?_⟩
    rw [(stallRises_alarms x _).1]
    simp [Conds.set]
  case header => exact .inl ⟨by simp, by simp [headerFails, Conds.set]⟩
  case retry => exact .inl ⟨by simp, by simp [Conds.set]⟩
  case duty now d => exact .inl ⟨by simp, (CondsOnly.of_pumpOnly (A := [.pumpTrip, .pumpFail]) (dutyStep_pumpOnly x _)).linkIsolated⟩
  case ack l _ => exact .inl ⟨by simp, (acknowledge_condsOnly x _).linkIsolated⟩
  case conflict => exact .inl ⟨by simp, (bayConflictFound_condsOnly x _).linkIsolated⟩
  case guardWithdraws => exact .inl ⟨by simp, by simp [(withdrawStart_pumpOnly x _ _).linkIsolated]⟩
  case guardStarts => exact .inl ⟨by simp, by simp [(enterStarting_pumpOnly x _).linkIsolated]⟩
  case startTimeout => exact .inl ⟨by simp, by simp [(enterFailed_pumpOnly x _).linkIsolated]⟩
  case stopFails => exact .inl ⟨by simp, by simp [(enterFailed_pumpOnly x _).linkIsolated]⟩
  case stopEnds => exact .inl ⟨by simp, by simp [(enterStopped_pumpOnly x _).linkIsolated]⟩
  case stopPulseEnds => exact .inl ⟨by simp, by simp [(enterStopped_pumpOnly x _).linkIsolated]⟩
  case tripCloses => exact .inl ⟨by simp, by simp [(enterTripped_pumpOnly x _).linkIsolated]⟩
  case tripFails => exact .inl ⟨by simp, by simp [(enterFailed_pumpOnly x _).linkIsolated]⟩
  case tripEnds => exact .inl ⟨by simp, by simp [(enterStopped_pumpOnly x _).linkIsolated]⟩
  case localCloses => exact .inl ⟨by simp, by simp [(enterLocked_pumpOnly x _).linkIsolated]⟩
  case localOpens => exact .inl ⟨by simp, by simp [(leaveLocked_pumpOnly x _).linkIsolated]⟩
  case runCloses =>
    exact .inl ⟨by simp, by simp [(runClosedInState_pumpOnly x _).linkIsolated]⟩
  case runOpens =>
    exact .inl ⟨by simp, by simp [(runOpenedInState_pumpOnly x _).linkIsolated]⟩
  all_goals exact .inl ⟨by simp, by simp⟩

/-! ### The ladder -/

/-- The law of the ladder at work. -/
structure LadderOk (x : Ctx) (s : State) : Prop where
  isolated : s.conds.linkIsolated = true ↔ s.ladder.stage = .isolated
  stage    : s.ladder.stage = stageOfCount x.cfg s.ladder.count

/-- LINK ISOLATED follows a stage formed. -/
theorem setStage_isolated {x : Ctx} {st : Stage} {s : State} (h : s.conds.linkIsolated = true ↔ s.ladder.stage = .isolated) :
    (setStage x st s).conds.linkIsolated = true ↔ st = .isolated := by
  unfold setStage
  split
  next hst => rw [← hst]; exact h
  next => simp [Conds.set]

theorem stageOfCount_zero {c : Settings} (h : settingsAllowed c = true) : stageOfCount c 0 = .linked := by
  have hq : 0 < c.quietAfter := by
    simp only [settingsAllowed, levelsInRange, between, Bool.and_eq_true, decide_eq_true_eq] at h
    omega
  simp [stageOfCount, hq]

theorem ageingStep_ladderOk {x : Ctx} {s : State} (h : s.conds.linkIsolated = true ↔ s.ladder.stage = .isolated) :
    LadderOk x (ageingStep x s) := by
  refine ⟨?_, by simp⟩
  have hiso : (ageingStep x s).conds.linkIsolated =
      (ageLadder x (ageOrder x (ageEntries x s))).conds.linkIsolated := (countWindow_condsOnly x _).linkIsolated
  rw [hiso, ageingStep_ladder]
  unfold ageLadder
  rw [setStage_isolated (by simpa using h)]
  simp

theorem returnToLinked_ladderOk {x : Ctx} {s : State} (h : s.conds.linkIsolated = true ↔ s.ladder.stage = .isolated)
    (hc : settingsAllowed x.cfg = true) : LadderOk x (returnToLinked x s) := by
  refine ⟨?_, by simp [stageOfCount_zero hc]⟩
  rw [returnToLinked_ladder]
  unfold returnToLinked
  exact setStage_isolated h

theorem LiveStep.ladderOk {x : Ctx} {s t : State} (hx : LiveStep x s t) (h : LadderOk x s) (hc : settingsAllowed x.cfg = true) :
    LadderOk x t := by
  rcases hx.ladder_or with ⟨hl, hi⟩ | ⟨u, d, hl, hi, rfl⟩ | ⟨u, v, hl, hi, rfl, ht, hti⟩
  · exact ⟨by rw [hl, hi]; exact h.isolated, by rw [hl]; exact h.stage⟩
  · exact ageingStep_ladderOk (s := { u with ageingTimer := d }) (by simpa [hi, hl] using h.isolated)
  · obtain ⟨h1, h2⟩ := returnToLinked_ladderOk (x := x) (s := u) (by rw [hi, hl]; exact h.isolated) hc
    exact ⟨by rw [ht, hti]; exact h1, by rw [ht]; exact h2⟩

/-- Settles O56: only the ladder forms a stage, from its count or back to LINKED, and LINK ISOLATED follows it there. -/
theorem everyStepKeepsTheLadderLaw : Obligations.EveryStepKeepsTheLadderLaw := by
  intro s t hs h
  refine step_keeps (P := LadderLaw) ?_ ?_ ?_ ?_ ?_ hs h
  · exact fun s q h => ⟨h.loads, h.isolated, h.stage, h.image, h.rest⟩
  · exact fun s c h => ⟨h.loads, h.isolated, h.stage, h.image, h.rest⟩
  · intro s
    constructor <;> simp [resetStation, ResetLoads, Loader.reset, Conds.reset, ctx?]
  · intro x s t hs hx hl
    have hcfg : s.loader.cfg = some x.cfg := ((ctx?_eq_some_iff s x).1 hx).2.2.2
    have hok := hl.ladderOk ⟨hs.isolated, hs.stage x hx⟩ (hs.image _ hcfg)
    have ht := hl.ctx hx
    refine ⟨resetLoads_of_ctx ht, hok.isolated, forall_ctx ht hok.stage, fun c hc => ?_, fun hr => absurd hr (not_atRest_of_ctx ht)⟩
    obtain ⟨-, -, hkept, -⟩ := hl.base
    exact hs.image c (hkept ▸ hc)
  · refine fun s t hs hx hr => hr.keeps (fun _ h => h.loads) ?_ ?_ ?_ hs hx
    · exact fun s l r h _ => ⟨h.loads, h.isolated, h.stage, h.image, h.rest⟩
    · intro s r l w h hrest hp hr hc
      have hx : ctx? { s with inReset := r, loader := l, screen := { s.screen with working := w } } = none := ctx?_of_rest hp
      exact ⟨hr, h.isolated, fun x hc => by simp [hx] at hc, fun c hcfg => (hc c hcfg).elim (h.image c) id, fun _ => h.rest hrest⟩
    · intro s x record hs hrest hcfg hx
      have hladder := hs.rest hrest
      have hiso := hs.isolated
      refine ⟨resetLoads_of_ctx hx, by simpa [adopt] using hiso, forall_ctx hx ?_, fun c hc => hs.image c (by simpa [adopt] using hc),
        fun hr => absurd hr (not_atRest_of_ctx hx)⟩
      simp [adopt, hladder, stageOfCount_zero (hs.image _ hcfg)]

end Sys2Proof.Machine
end

section
/-! PROOF. The wash: every operation at work moves the screen controller, the claim list and the frames of the wash by trigger checks,
aborts and changes of the list, and else leaves what their laws read (`WashMoves`). -/

namespace Sys2Proof.Machine

set_option Elab.async false

/-! ### The frames of the wash -/

/-- An IDLE transmitter has nothing to send (log 9). -/
def LinkFree (s : State) : Prop := s.link.tx = .idle → s.link.inHand = none ∧ s.link.queue = []

/-- What the law of the shared header reads of the link interface has not moved. -/
structure FramesKept (s t : State) : Prop where
  free : LinkFree t
  frames : washFrames t = washFrames s
  mute : t.link.tx = .mute ↔ s.link.tx = .mute

theorem FramesKept.trans {s t u : State} (h : FramesKept s t) (k : FramesKept t u) : FramesKept s u :=
  ⟨k.free, k.frames.trans h.frames, k.mute.trans h.mute⟩

theorem FramesKept.of_link {s t : State} (h : t.link = s.link) (hs : LinkFree s) : FramesKept s t :=
  ⟨by rw [LinkFree, h]; exact hs, by rw [washFrames, washFrames, h], by rw [h]⟩

/-- A frame offered to a transmitter that is not MUTE stands behind those that wait; a STATUS is none of the wash. -/
theorem offer_washFrames {x : Ctx} {f : TxFrame} {s : State} (hs : LinkFree s) (hm : s.link.tx ≠ .mute) :
    LinkFree (offer x f s) ∧ washFrames (offer x f s) = washFrames s ++ [f].filter (· ≠ .status) ∧ (offer x f s).link.tx ≠ .mute := by
  unfold offer
  rw [if_neg hm]
  split
  next h =>
    have hf : f = .status := by simp_all
    exact ⟨hs, by simp [hf], hm⟩
  next =>
    unfold takeNext
    by_cases hi : s.link.tx = .idle
    · obtain ⟨hn, hq⟩ := hs hi
      simp [hi, hq, hn, LinkFree, washFrames]
    · split
      next h _ => exact absurd h hi
      next => exact ⟨fun h => absurd h hi, by simp [washFrames], hm⟩

theorem offerStatus_framesKept {x : Ctx} {s : State} (hs : LinkFree s) : FramesKept s (offerStatus x s) := by
  by_cases hm : s.link.tx = .mute
  · rw [offerStatus, offer_mute hm]
    exact .of_link rfl hs
  · obtain ⟨h1, h2, h3⟩ := offer_washFrames (x := x) (f := .status) hs hm
    exact ⟨h1, h2.trans (by simp), iff_of_false h3 hm⟩

theorem setCond_framesKept {x : Ctx} {a : Alarm} {v : Bool} {s : State} (hs : LinkFree s) : FramesKept s (setCond x a v s) := by
  rcases setCond_link x a v s with h | ⟨u, hu, h⟩
  · exact .of_link h hs
  · have hu' := FramesKept.of_link hu hs
    have ho := offerStatus_framesKept (x := x) hu'.free
    exact (hu'.trans ho).trans (.of_link h ho.free)

/-- What the blocks tell where no frame of the wash is offered or cancelled. -/
theorem Told.framesKept {x : Ctx} {s t : State} (h : Told x false s t) (hs : LinkFree s) : FramesKept s t := by
  induction h with
  | quiet _ _ h1 h2 h3 _ =>
    exact ⟨by rw [LinkFree, h1, h2, h3]; exact hs, by rw [washFrames, washFrames, h2, h3], by rw [h1]⟩
  | offer f s hf =>
    obtain rfl : f = .status := by simpa using hf
    exact offerStatus_framesKept hs
  | cond => exact setCond_framesKept hs
  | acked => exact .of_link rfl hs
  | cancel p s hf => exact absurd hf (by decide)
  | trans _ _ ih1 ih2 => exact (ih1 hs).trans (ih2 (ih1 hs).free)

/-! ### What leaves the wash -/

/-- What the laws of the screen, of the claim list and of the shared header read has not moved, and a drive by the table stays one. -/
structure Quiet (x : Ctx) (s t : State) : Prop where
  entries  : t.claims.entries = s.claims.entries
  present  : ∀ b : Bay, b ≠ x.bay → s.peers[b].presence = .present → t.peers[b].presence = .present
  wash     : t.screen.wash = s.screen.wash
  tag      : t.screen.tag = s.screen.tag
  spray    : t.screen.spray = s.screen.spray
  cycle    : t.screen.cycleTimer.isSome = true → s.screen.cycleTimer.isSome = true
  header   : t.screen.headerTimer.isSome = true → s.screen.headerTimer.isSome = true ∨ s.screen.spray = true
  stall    : (s.screen.stallTimer.isSome = true ↔ s.screen.drive ≠ .off) → (t.screen.stallTimer.isSome = true ↔ t.screen.drive ≠ .off)
  drive    : s.screen.drive = driveChoice s → t.screen.drive = driveChoice t
  conflict : t.conds.bayConflict = s.conds.bayConflict
  frames   : LinkFree s → FramesKept s t

namespace Quiet

variable {x : Ctx} {s t u : State}

theorem trans (h : Quiet x s t) (k : Quiet x t u) : Quiet x s u where
  entries := k.entries.trans h.entries
  present b hb hs := k.present b hb (h.present b hb hs)
  wash := k.wash.trans h.wash
  tag := k.tag.trans h.tag
  spray := k.spray.trans h.spray
  cycle := h.cycle ∘ k.cycle
  header hu := (k.header hu).elim h.header fun ht => .inr (h.spray ▸ ht)
  stall := k.stall ∘ h.stall
  drive := k.drive ∘ h.drive
  conflict := k.conflict.trans h.conflict
  frames hs := (h.frames hs).trans (k.frames (h.frames hs).free)

/-- The screen controller, the claim list and the peers stand, and the choice of the drive with them. -/
theorem of_frames (hf : LinkFree s → FramesKept s t) (hb : t.conds.bayConflict = s.conds.bayConflict)
    (hd : driveChoice t = driveChoice s) (hs : t.screen = s.screen := by simp)
    (hc : t.claims.entries = s.claims.entries := by simp) (hp : t.peers = s.peers := by simp) : Quiet x s t where
  entries := hc
  present b _ h := by rw [hp]; exact h
  wash := by rw [hs]
  tag := by rw [hs]
  spray := by rw [hs]
  cycle h := by rw [hs] at h; exact h
  header h := by rw [hs] at h; exact .inl h
  stall h := by rw [hs]; exact h
  drive h := by rw [hs, hd]; exact h
  conflict := hb
  frames := hf

theorem of_screen (hT : Told x false s t) (hd : driveChoice t = driveChoice s) (hs : t.screen = s.screen := by simp)
    (hc : t.claims.entries = s.claims.entries := by simp) (hp : t.peers = s.peers := by simp) : Quiet x s t :=
  .of_frames hT.framesKept hT.bayConflict hd hs hc hp

/-- Nothing of it has moved. -/
theorem of_eq (hs : t.screen = s.screen := by simp) (hc : t.claims.entries = s.claims.entries := by simp)
    (hp : t.peers = s.peers := by simp) (hphase : t.loader.phase = s.loader.phase := by simp)
    (hswarm : t.fouling.swarm = s.fouling.swarm := by simp) (hconds : t.conds = s.conds := by simp)
    (halarms : t.alarms = s.alarms := by simp) (hlink : t.link = s.link := by simp) : Quiet x s t :=
  .of_screen (.of_eq hconds halarms hlink)
    (driveChoice_congr hphase (by rw [hconds]) (by rw [hconds]) (by rw [hs]) hswarm (by rw [hconds]) (by rw [hconds])) hs hc hp

theorem refl (s : State) : Quiet x s s := .of_eq

/-- An operation of the pump controller. -/
theorem of_pump (hT : Told x false s t) (hP : PumpOnly s t) (hs : t.screen = s.screen := by simp)
    (hc : t.claims.entries = s.claims.entries := by simp) (hp : t.peers = s.peers := by simp) : Quiet x s t :=
  .of_screen hT (driveChoice_congr (by rw [hP.loader]) (by rw [hP.conds]) (by rw [hP.conds]) (by rw [hs]) (by rw [hP.fouling])
    (by rw [hP.conds]) (by rw [hP.conds])) hs hc hp

/-- A condition judged that the choice of the drive does not read. -/
theorem cond (a : Alarm) (v : Bool) (s : State)
    (ha : a ∉ [Alarm.bayConflict, .screenStall, .highHigh, .surge] := by decide) : Quiet x s (setCond x a v s) := by
  have hkept : ∀ b ∈ [Alarm.bayConflict, .screenStall, .highHigh, .surge], (s.conds.set a v).get b = s.conds.get b :=
    fun b hb => Conds.get_set_of_ne s.conds v fun hab => ha (hab ▸ hb)
  refine .of_screen (.cond a v s fun h => ha (by simp [h])) (driveChoice_congr (by simp) ?_ ?_ (by simp) (by simp) ?_ ?_)
  · rw [setCond_conds]; exact hkept .bayConflict (by decide)
  · rw [setCond_conds]; exact hkept .screenStall (by decide)
  · rw [setCond_conds]; exact hkept .highHigh (by decide)
  · rw [setCond_conds]; exact hkept .surge (by decide)

theorem offerStatus (s : State) : Quiet x s (offerStatus x s) :=
  .of_screen (.offerStatus s) (driveChoice_congr (by simp) (by simp) (by simp) (by simp) (by simp) (by simp) (by simp))

/-- The timers between washes. -/
theorem of_timers (now : Clock) (gap interval retry : Timer) (due : Bool) (s : State) : Quiet x s { s with
    clock := now, screen := { s.screen with gapTimer := gap, intervalTimer := interval, retryTimer := retry, intervalDue := due } } where
  entries := rfl
  present _ _ h := h
  wash := rfl
  tag := rfl
  spray := rfl
  cycle := id
  header := .inl
  stall := id
  drive := id
  conflict := rfl
  frames := .of_link rfl

/-- The drive chosen afresh after a change of what its choice reads. -/
theorem select (hT : Told x false s u) (hs : u.screen = s.screen := by simp) (hc : u.claims.entries = s.claims.entries := by simp)
    (hp : u.peers = s.peers := by simp) : Quiet x s (selectDrive x u) where
  entries := by simp [hc]
  present b _ h := by simp only [selectDrive_frame, hp]; exact h
  wash := by simp [hs]
  tag := by simp [hs]
  spray := by simp [hs]
  cycle h := by simpa [hs] using h
  header h := .inl (by simpa [hs] using h)
  stall h := by
    rw [← hs] at h
    unfold selectDrive setDrive
    split_ifs <;> simp_all [ahead]
  drive _ := by simp
  conflict := by simp [hT.bayConflict]
  frames h := (hT.framesKept h).trans (.of_link (by simp) (hT.framesKept h).free)

end Quiet

/-! ### The changes of the list -/

/-- What a list keeps of the one before it: one entry a bay, URGENT before ROUTINE, foreign entries of PRESENT bays alone. -/
structure Listed (x : Ctx) (s : State) (l : List Claim) : Prop where
  single  : (s.claims.entries.map Claim.bay).Nodup → (l.map Claim.bay).Nodup
  ordered : urgentFirst s.claims.entries → urgentFirst l
  present : (∀ e ∈ s.claims.entries, e.bay ≠ x.bay → s.peers[e.bay].presence = .present) →
    ∀ e ∈ l, e.bay ≠ x.bay → s.peers[e.bay].presence = .present

/-- The entries of the own bay in a list. -/
def ownIn (x : Ctx) (l : List Claim) : List Claim := l.filter fun e => e.bay = x.bay

/-- The own claims of a list are those of the one before it. -/
def OwnKept (x : Ctx) (s : State) (l : List Claim) : Prop :=
  (ownIn x l).map Claim.tag = (ownIn x s.claims.entries).map Claim.tag

/-- From the first state to the second the wash has moved by trigger checks, aborts and changes of the list that keep the own claim. -/
inductive WashMoves (x : Ctx) : State → State → Prop
  | quiet {s t : State} : Quiet x s t → WashMoves x s t
  | check (e : TriggerEvent) (s : State) : WashMoves x s (triggerCheck x e s)
  | abort (s : State) : WashMoves x s (abortWash x s)
  | list {l : List Claim} (s : State) : Listed x s l → OwnKept x s l → WashMoves x s (changeList x l s)
  | silent (b : Bay) (s : State) : b ≠ x.bay → WashMoves x s
      (removeClaim x b { s with peers := s.peers.set b { s.peers[b] with presence := .silent } })
  | trans {s t u : State} : WashMoves x s t → WashMoves x t u → WashMoves x s u

/-- Entries alike but for their in-range times. -/
def claimKey (e : Claim) : Bay × Nat × ClaimClass := (e.bay, e.tag, e.cls)

theorem map_bay_eq (l : List Claim) : l.map Claim.bay = (l.map claimKey).map Prod.fst := by simp [claimKey, Function.comp_def]

theorem urgentFirst_iff (l : List Claim) : urgentFirst l ↔
    (l.map claimKey).Pairwise fun a b => a.2.2 = .routine → b.2.2 = .routine := by
  simp [urgentFirst, List.pairwise_map, claimKey]

theorem Listed.of_sublist {x : Ctx} {s : State} {l : List Claim} (h : (l.map claimKey).Sublist (s.claims.entries.map claimKey)) :
    Listed x s l where
  single hs := by
    rw [map_bay_eq] at hs ⊢
    exact hs.sublist (h.map _)
  ordered hs := by
    rw [urgentFirst_iff] at hs ⊢
    exact hs.sublist h
  present hs e he hb := by
    obtain ⟨e', he', hk⟩ := List.mem_map.1 (h.subset (List.mem_map_of_mem he))
    have hbay : e'.bay = e.bay := congrArg Prod.fst hk
    simpa only [hbay] using hs e' he' (by rwa [hbay])

theorem ownIn_map_tag (x : Ctx) (l : List Claim) :
    (ownIn x l).map Claim.tag = ((l.map claimKey).filter fun k => k.1 = x.bay).map fun k => k.2.1 := by
  simp only [ownIn, List.filter_map, claimKey, Function.comp_def, List.map_map]
  rfl

theorem withoutBay_listed (x : Ctx) (b : Bay) (s : State) : Listed x s (withoutBay b s.claims.entries) :=
  .of_sublist (List.filter_sublist.map _)

theorem withoutBay_ownKept {x : Ctx} {b : Bay} {s : State} (hb : b ≠ x.bay) : OwnKept x s (withoutBay b s.claims.entries) := by
  unfold OwnKept ownIn withoutBay
  rw [List.filter_filter]
  congr 1
  refine List.filter_congr fun e _ => ?_
  by_cases he : e.bay = x.bay <;> simp [he, Ne.symm hb]

theorem ownIn_listed (x : Ctx) (s : State) : Listed x s (ownIn x s.claims.entries) := .of_sublist (List.filter_sublist.map _)

theorem ownIn_ownKept (x : Ctx) (s : State) : OwnKept x s (ownIn x s.claims.entries) := by
  simp [OwnKept, ownIn]

theorem zipIdx_mapIdx {α β : Type} (f : Nat → α → β) (l : List α) :
    (l.mapIdx f).zipIdx = l.zipIdx.map fun p => (f p.2 p.1, p.2) := by
  refine List.ext_getElem? fun i => ?_
  cases h : l[i]? <;> simp [h, List.getElem?_zipIdx]

@[simp] theorem countedInRange_key (x : Ctx) (i : Nat) (e : Claim) : claimKey (countedInRange x i e) = claimKey e := by
  unfold countedInRange
  split <;> rfl

/-- The list after one range expiry, by place in the one before it: each entry counted, and those past their limit gone. -/
theorem afterRangeExpiry_eq (x : Ctx) (l : List Claim) : afterRangeExpiry x l =
    (l.zipIdx.filter fun p => !overLimit x p.2 (countedInRange x p.2 p.1)).map fun p => countedInRange x p.2 p.1 := by
  simp [afterRangeExpiry, zipIdx_mapIdx, List.filter_map, Function.comp_def]

theorem afterRangeExpiry_keys (x : Ctx) (l : List Claim) : (afterRangeExpiry x l).map claimKey =
    (l.zipIdx.filter fun p => !overLimit x p.2 (countedInRange x p.2 p.1)).map fun p => claimKey p.1 := by
  simp [afterRangeExpiry_eq, Function.comp_def]

theorem map_key_zipIdx (l : List Claim) : l.zipIdx.map (fun p => claimKey p.1) = l.map claimKey := by
  conv_rhs => rw [← List.zipIdx_map_fst 0 l, List.map_map]
  rfl

theorem afterRangeExpiry_listed (x : Ctx) (s : State) : Listed x s (afterRangeExpiry x s.claims.entries) := by
  refine .of_sublist ?_
  rw [afterRangeExpiry_keys, ← map_key_zipIdx]
  exact List.filter_sublist.map _

/-- An own entry does not count and passes no limit (R84, R85). -/
theorem overLimit_own {x : Ctx} {e : Claim} (h : e.bay = x.bay) (i : Nat) : overLimit x i (countedInRange x i e) = false := by
  have hb : (countedInRange x i e).bay = e.bay := congrArg Prod.fst (countedInRange_key x i e)
  simp [overLimit, hb, h]

theorem afterRangeExpiry_ownKept (x : Ctx) (s : State) : OwnKept x s (afterRangeExpiry x s.claims.entries) := by
  unfold OwnKept
  rw [ownIn_map_tag, ownIn_map_tag, afterRangeExpiry_keys, ← map_key_zipIdx, List.filter_map, List.filter_map, List.filter_filter]
  congr 2
  refine List.filter_congr fun p _ => ?_
  by_cases hb : p.1.bay = x.bay
  · simp [overLimit_own hb, hb, claimKey]
  · simp [hb, claimKey]

/-! ### A claim placed -/

theorem placed_perm (e : Claim) (l : List Claim) : (placed e l).Perm (e :: l) := by
  unfold placed
  split
  · refine List.perm_middle.trans ?_
    rw [List.rdropWhile_append_rtakeWhile]
  · exact List.perm_append_singleton e l

/-- Before the last URGENT entry there are URGENT entries alone. -/
theorem urgent_of_mem_rdropWhile {l : List Claim} (h : urgentFirst l) {e : Claim} (he : e ∈ l.rdropWhile isRoutine) : e.cls = .urgent := by
  have hne : l.rdropWhile isRoutine ≠ [] := List.ne_nil_of_mem he
  have hlast := List.rdropWhile_last_not isRoutine l hne
  have hord : urgentFirst (l.rdropWhile isRoutine) := h.sublist (List.rdropWhile_prefix isRoutine l).sublist
  by_contra hcls
  have hr : e.cls = .routine := by cases hc : e.cls <;> simp_all
  refine hlast ?_
  have hsplit := List.dropLast_concat_getLast hne
  rw [← hsplit, urgentFirst, List.pairwise_append] at hord
  rw [← hsplit] at he
  rcases List.mem_append.1 he with he | he
  · simp [isRoutine, hord.2.2 e he _ (List.mem_singleton_self _) hr]
  · rw [List.mem_singleton] at he
    simp [isRoutine, ← he, hr]

theorem routine_of_mem_rtakeWhile {l : List Claim} {e : Claim} (he : e ∈ l.rtakeWhile isRoutine) : e.cls = .routine := by
  simpa [isRoutine] using List.mem_rtakeWhile_imp he

theorem placed_urgentFirst {e : Claim} {l : List Claim} (h : urgentFirst l) : urgentFirst (placed e l) := by
  unfold placed
  split
  next hc =>
    refine List.pairwise_append.2 ⟨h.sublist (List.rdropWhile_prefix isRoutine l).sublist, List.pairwise_cons.2 ⟨?_, ?_⟩, ?_⟩
    · exact fun a ha _ => routine_of_mem_rtakeWhile ha
    · exact h.sublist (List.rtakeWhile_suffix isRoutine l).sublist
    · exact fun a ha b _ hr => absurd hr (by simp [urgent_of_mem_rdropWhile h ha])
  next hc =>
    refine List.pairwise_append.2 ⟨h, List.pairwise_singleton _ _, fun a _ b hb _ => ?_⟩
    rw [List.mem_singleton.1 hb]
    exact hc

theorem placed_listed {x : Ctx} {s : State} {b : Bay} (tag : Nat) (k : ClaimClass) (d : Nat)
    (hb : b ≠ x.bay → s.peers[b].presence = .present) : Listed x s (placed ⟨b, tag, k, d, 0⟩ (withoutBay b s.claims.entries)) where
  single hs := by
    have hperm := (placed_perm ⟨b, tag, k, d, 0⟩ (withoutBay b s.claims.entries)).map Claim.bay
    rw [hperm.nodup_iff, List.map_cons, List.nodup_cons]
    refine ⟨?_, (withoutBay_listed x b s).single hs⟩
    simp [withoutBay]
  ordered hs := placed_urgentFirst ((withoutBay_listed x b s).ordered hs)
  present hs e he hne := by
    rcases List.mem_cons.1 ((placed_perm _ _).mem_iff.1 he) with rfl | he
    · exact hb hne
    · exact (withoutBay_listed x b s).present hs e he hne

/-- A foreign entry placed leaves the own entries in their places among each other. -/
theorem placed_ownKept {x : Ctx} {s : State} {b : Bay} (tag : Nat) (k : ClaimClass) (d : Nat) (hb : b ≠ x.bay) :
    OwnKept x s (placed ⟨b, tag, k, d, 0⟩ (withoutBay b s.claims.entries)) := by
  have hplaced : ownIn x (placed ⟨b, tag, k, d, 0⟩ (withoutBay b s.claims.entries)) = ownIn x (withoutBay b s.claims.entries) := by
    unfold placed ownIn
    split
    · conv_rhs => rw [← List.rdropWhile_append_rtakeWhile (p := isRoutine) (l := withoutBay b s.claims.entries)]
      simp only [List.filter_append, List.filter_cons, decide_eq_false hb, Bool.false_eq_true, if_false]
    · simp [hb]
  unfold OwnKept
  rw [hplaced]
  exact withoutBay_ownKept hb

end Sys2Proof.Machine
end

section
/-! PROOF. The wash: what every operation of the blocks does to it (`WashMoves`), and the law of the screen: the statement O51. -/

namespace Sys2Proof.Machine

set_option Elab.async false

namespace WashMoves

variable {x : Ctx} {s t u : State}

theorem refl (s : State) : WashMoves x s s := .quiet (.refl s)

theorem after (h : WashMoves x t u) (hq : Quiet x s t) : WashMoves x s u := .trans (.quiet hq) h

theorem before (h : WashMoves x s t) (hq : Quiet x t u) : WashMoves x s u := .trans h (.quiet hq)

theorem ite {c : Prop} [Decidable c] (h1 : c → WashMoves x s t) (h2 : ¬c → WashMoves x s u) :
    WashMoves x s (if c then t else u) := by
  split
  next h => exact h1 h
  next h => exact h2 h

theorem eitherOrder {first second : State → State} (h1 : ∀ s, WashMoves x s (first s)) (h2 : ∀ s, WashMoves x s (second s))
    (s : State) : WashMoves x s (eitherOrder first second s) := by
  have hc : WashMoves x s { s with choices := s.choices + 1 } := .quiet .of_eq
  rcases eitherOrder_cases first second s with h | h <;> rw [h]
  · exact .trans hc (.trans (h1 _) (h2 _))
  · exact .trans hc (.trans (h2 _) (h1 _))

theorem foldl {α : Type} {g : State → α → State} (h : ∀ s a, WashMoves x s (g s a)) (l : List α) (s : State) :
    WashMoves x s (l.foldl g s) := by
  induction l generalizing s with
  | nil => exact .refl s
  | cons a l ih => exact .trans (h s a) (ih _)

end WashMoves

section
variable (x : Ctx) (s : State)

/-! ### The fouling monitor, the front end and the tide monitor -/

theorem protectiveStop_quiet (c : Cause) : Quiet x s (protectiveStop x c s) := .of_pump (protectiveStop_told x s c) (protectiveStop_pumpOnly x c s)

theorem blockedChanged_quiet (v : Bool) : Quiet x s (blockedChanged x v s) := by
  unfold blockedChanged
  dsimp only
  split
  · exact (Quiet.cond .screenBlocked v s).trans (protectiveStop_quiet x _ _)
  · exact .cond .screenBlocked v s

theorem foulingUpdate_wash : WashMoves x s (foulingUpdate x s) := by
  unfold foulingUpdate
  refine .ite (fun _ => .after (.check _ _) .of_eq) fun _ => .after (.eitherOrder (fun t => .check _ t) (fun t => ?_) _) .of_eq
  exact .quiet (blockedChanged_quiet x t _)

theorem suctionChanged_quiet (v : Bool) : Quiet x s (suctionChanged x v s) := by
  unfold suctionChanged
  dsimp only
  split
  · exact (Quiet.cond .suctionLow v s).trans (protectiveStop_quiet x _ _)
  · exact .cond .suctionLow v s

theorem deliverPair_wash : WashMoves x s (deliverPair x s) :=
  .ite (fun _ => foulingUpdate_wash x s) fun _ =>
    .eitherOrder (foulingUpdate_wash x) (fun t => .quiet (suctionChanged_quiet x t _)) s

theorem checkPending_quiet : Quiet x s (checkPending x s) := .of_pump (checkPending_told x s) (checkPending_pumpOnly x s)

theorem sampleStep_wash (o i : Nat) : WashMoves x s (sampleStep x o i s) := by
  unfold sampleStep
  refine .after (t := sampledLoops x o i s) ?_ .of_eq
  refine .after (.after (.after (deliverPair_wash x _) (checkPending_quiet x _)) (.cond .outerSensor _ _)) (.cond .innerSensor _ _)

/-- The choice of the drive after what it reads of the swarm watch has moved, and the trigger check of a rise. -/
theorem swarmChanged_wash {s t : State} (hT : Told x false s t) (hs : t.screen = s.screen) (hc : t.claims = s.claims)
    (hp : t.peers = s.peers) : WashMoves x s (swarmChanged x t) := by
  have hq : Quiet x s (selectDrive x t) := .select hT hs (by rw [hc]) hp
  unfold swarmChanged
  exact .before (.ite (fun _ => .after (.check _ _) hq) fun _ => .quiet hq) (.offerStatus _)

theorem trendStep_wash : WashMoves x s (trendStep x s) := by
  unfold trendStep
  extract_lets deltas swarm f t
  have hT : Told x false s t := .of_eq rfl rfl rfl
  refine .ite (fun h => .quiet (.of_screen hT ?_ rfl rfl rfl)) fun _ => swarmChanged_wash x hT rfl rfl rfl
  exact driveChoice_congr rfl rfl rfl rfl h rfl rfl

theorem tideStep_quiet : Quiet x s (tideStep x s) := by
  have hconds := tideStep_condsOnly x s
  unfold tideStep
  extract_lets t r u v d
  have hu : Told x false s u := .after (handTideConditions_told x { t with tide := r.2 } r.1) (by simp [t]) (by simp [t]) (by simp [t])
  have hv : Told x false s v := hu.trans (.ite (fun _ => .refl u) fun _ => .cond .outerSensor _ u (by decide))
  have hkept : v.screen = s.screen ∧ v.claims = s.claims ∧ v.peers = s.peers ∧ v.loader = s.loader ∧ v.fouling = s.fouling := by
    simp only [v]
    split <;> simp [u, t, formOuterSensor]
  obtain ⟨hs, hc, hp, hl, hf⟩ := hkept
  have hvc : CondsOnly tideConds s v := by
    have hd : d.conds = v.conds := by simp only [d]; split <;> simp
    have hstep : (tideStep x s).conds = d.conds := by
      change (if t.tide.suspect = s.tide.suspect then d else offerStatus x d).conds = d.conds
      split <;> simp
    intro a ha
    rw [← hconds a ha, hstep, hd]
  have hd : Quiet x s d := by
    simp only [d]
    split
    next h =>
      obtain ⟨hhh, hsu⟩ : v.conds.highHigh = s.conds.highHigh ∧ v.conds.surge = s.conds.surge := by simpa using h
      have hb : v.conds.bayConflict = s.conds.bayConflict := hvc .bayConflict (by decide)
      have hst : v.conds.screenStall = s.conds.screenStall := hvc .screenStall (by decide)
      exact .of_screen hv (driveChoice_congr (by rw [hl]) hb hst (by rw [hs]) (by rw [hf]) hhh hsu) hs (by rw [hc]) hp
    next => exact .select hv hs (by rw [hc]) hp
  refine .trans hd ?_
  split
  · exact .refl d
  · exact .offerStatus d

/-! ### The annunciator -/

theorem ackEntries_quiet : Quiet x s (ackEntries x s) :=
  .of_screen (ackEntries_told x s) (driveChoice_congr (by simp) (by simp) (by simp) (by simp) (by simp) (by simp) (by simp))

theorem ackAtPump_quiet : Quiet x s (ackAtPump x s) := .of_pump (ackAtPump_told x s) (ackAtPump_pumpOnly x s)

theorem ackAtScreen_quiet : Quiet x s (ackAtScreen x s) := by
  unfold ackAtScreen
  split
  · exact .select (.cond .screenStall false s (by decide))
  · exact .refl s

theorem acknowledge_quiet : Quiet x s (acknowledge x s) := by
  unfold acknowledge ackAtLoader
  exact (((ackEntries_quiet x s).trans (ackAtPump_quiet x _)).trans (ackAtScreen_quiet x _)).trans (.cond .dutyRecordLost _ _)

/-! ### The screen controller -/

theorem headerFails_wash : WashMoves x s (headerFails x s) := by
  unfold headerFails
  exact .before (.before (.abort s) (.of_timers _ _ _ _ _ _)) (.cond .washWaterFail _ _)

/-- A rise annunciated moves the entries and may offer a STATUS. -/
theorem annunciate_quiet (a : Alarm) (v : Bool) : Quiet x s (annunciate x a v s) := by
  have hset (al : Vector AlarmState 17) : Quiet x s { s with alarms := al } := .of_frames (.of_link rfl) rfl (driveChoice_congr rfl rfl rfl rfl rfl rfl rfl)
  unfold annunciate
  dsimp only
  split
  · exact (hset _).trans (.offerStatus _)
  · exact .refl s

theorem selectDrive_off {x : Ctx} {s : State} (hd : driveChoice s = .off) (h : s.screen.stallTimer = none) :
    (selectDrive x s).screen.drive = .off ∧ (selectDrive x s).screen.stallTimer = none := by
  unfold selectDrive setDrive
  rw [hd]
  split_ifs <;> simp_all

/-- A stall turns the drive off, whose window has run out. -/
theorem stalled_quiet (now : Clock) : Quiet x s (selectDrive x { s with
    clock := now, screen := { s.screen with stallTimer := none }, conds := { s.conds with screenStall := true } }) := by
  obtain ⟨hd, ht⟩ := selectDrive_off (x := x) (s := { s with
    clock := now, screen := { s.screen with stallTimer := none }, conds := { s.conds with screenStall := true } })
    (by simp [driveChoice]) rfl
  refine ⟨by simp, by simp, by simp, by simp, by simp, by simp, ?_, fun _ => ?_, fun _ => by simp, by simp, fun hf => ?_⟩
  · exact fun hh => .inl (by simpa using hh)
  · rw [hd, ht]; simp
  · exact .of_link (by simp) hf

theorem stallRises_wash (now : Clock) :
    WashMoves x s (stallRises x { s with clock := now, screen := { s.screen with stallTimer := none } }) := by
  unfold stallRises
  have hm : WashMoves x s (abortWash x (selectDrive x { s with
      clock := now, screen := { s.screen with stallTimer := none }, conds := { s.conds with screenStall := true } })) :=
    .after (.abort _) (stalled_quiet x s now)
  exact .ite (fun _ => hm) fun _ => .before hm (annunciate_quiet x _ .screenStall true)

/-! ### The claim list -/

theorem removeClaim_wash {b : Bay} (hb : b ≠ x.bay) : WashMoves x s (removeClaim x b s) :=
  .ite (fun _ => .list s (withoutBay_listed x b s) (withoutBay_ownKept hb)) fun _ => .refl s

theorem insertClaim_wash {b : Bay} (hb : b ≠ x.bay) (tag : Nat) (k : ClaimClass) (d : Nat) (hp : s.peers[b].presence = .present) :
    WashMoves x s (insertClaim x b tag k d s) :=
  .list s (placed_listed tag k d fun _ => hp) (placed_ownKept tag k d hb)

theorem removeReleased_wash {b : Bay} (hb : b ≠ x.bay) (tag : Nat) : WashMoves x s (removeReleased x b tag s) :=
  .ite (fun _ => removeClaim_wash x s hb) fun _ => .refl s

theorem stripForeign_wash : WashMoves x s (stripForeign x s) := .list s (ownIn_listed x s) (ownIn_ownKept x s)

theorem repairFromStatus_wash {b : Bay} (hb : b ≠ x.bay) (r : Report) (hp : s.peers[b].presence = .present) :
    WashMoves x s (repairFromStatus x b r s) := by
  unfold repairFromStatus
  split
  · exact removeClaim_wash x s hb
  · exact .refl s
  · exact .refl s
  all_goals exact .ite (fun _ => .refl s) fun _ => insertClaim_wash x s hb _ _ _ hp

/-! ### The peer table and the ladder -/

theorem isolateWash_wash : WashMoves x s (isolateWash x s) :=
  .ite (fun _ => .eitherOrder (stripForeign_wash x) (fun t => .abort t) s) fun _ => stripForeign_wash x s

theorem isolatedAtPump_quiet : Quiet x s (isolatedAtPump x s) := .of_pump (isolatedAtPump_told x s) (isolatedAtPump_pumpOnly x s)

theorem setStage_wash (st : Stage) : WashMoves x s (setStage x st s) := by
  unfold setStage
  refine .ite (fun _ => .refl s) fun _ => .before (.after (t := offerStatus x { s with ladder := { s.ladder with stage := st } }) ?_ ?_)
    (.cond .linkIsolated _ _)
  · exact .ite (fun _ => .before (isolateWash_wash x _) (isolatedAtPump_quiet x _)) fun _ => .refl _
  · exact Quiet.trans .of_eq (.offerStatus { s with ladder := { s.ladder with stage := st } })

theorem returnToLinked_wash : WashMoves x s (returnToLinked x s) := by
  unfold returnToLinked
  exact .after (setStage_wash x _ _) .of_eq

theorem ageLadder_wash : WashMoves x s (ageLadder x s) := by
  unfold ageLadder
  exact .after (setStage_wash x _ _) .of_eq

theorem invalidateLane_quiet (b : Bay) : Quiet x s (invalidateLane b s) :=
  .of_eq rfl rfl rfl rfl rfl rfl rfl rfl

theorem fallSilent_wash {b : Bay} (hb : b ≠ x.bay) : WashMoves x s (fallSilent x b s) :=
  .before (.silent b s hb) (invalidateLane_quiet x _ b)

theorem age_quiet (b : Bay) (n : Nat) : Quiet x s { s with peers := s.peers.set b { s.peers[b] with age := n } } where
  entries := rfl
  present c _ h := by
    simp only [Fin.getElem_fin, Vector.getElem_set]
    split
    next hbc => rw [Fin.ext hbc]; exact h
    next => exact h
  wash := rfl
  tag := rfl
  spray := rfl
  cycle := id
  header := .inl
  stall := id
  drive := id
  conflict := rfl
  frames := .of_link rfl

theorem ageEntry_wash (b : Bay) : WashMoves x s (ageEntry x s b) := by
  unfold ageEntry
  refine .ite (fun _ => .refl s) fun h => .ite (fun _ => .after (fallSilent_wash x _ ?_) (age_quiet x s b _)) fun _ => .quiet (age_quiet x s b _)
  exact fun hb => h (by simp [hb])

theorem ageEntries_wash : WashMoves x s (ageEntries x s) := .foldl (fun t b => ageEntry_wash x t b) _ s

/-- OPERATING entry moves the phase between two in which the choice of the drive is one. -/
theorem enterOperating_quiet (h : s.loader.phase = .listening) : Quiet x s (enterOperating x s) := by
  have hp : Quiet x s { s with loader := { s.loader with phase := .operating } } :=
    .of_frames (.of_link rfl) rfl (by simp [driveChoice, h])
  unfold enterOperating
  exact (hp.trans (.offerStatus _)).trans (.of_timers _ _ _ _ _ _)

theorem countWindow_quiet : Quiet x s (countWindow x s) := by
  unfold countWindow
  split
  next h =>
    dsimp only
    have hw : Quiet x s { s with loader := { s.loader with window := s.loader.window + 1 } } := .of_eq
    split
    · refine .trans hw ?_
      unfold endListening
      split
      · refine .trans (.trans (t := adoptHours x { s with loader := { s.loader with window := s.loader.window + 1 } }) ?_
          (enterOperating_quiet x _ ?_)) (.cond .dutyRecordLost _ _)
        · exact .of_eq (by simp [adoptHours]) (by simp [adoptHours]) (by simp [adoptHours]) (by simp [adoptHours])
            (by simp [adoptHours]) (by simp [adoptHours]) (by simp [adoptHours]) (by simp [adoptHours])
        · simp [adoptHours, h]
      · exact enterOperating_quiet x _ h
    · exact hw
  next => exact .refl s

theorem ageingStep_wash : WashMoves x s (ageingStep x s) := by
  unfold ageingStep
  refine .before (.trans (ageEntries_wash x s) (.after (ageLadder_wash x _) ?_)) (countWindow_quiet x _)
  exact .of_eq

theorem restartRemovals_wash {b : Bay} (hb : b ≠ x.bay) (r : Report) : WashMoves x s (restartRemovals x b r s) :=
  .ite (fun _ => .before (removeClaim_wash x s hb) (invalidateLane_quiet x _ b)) fun _ => .refl s

theorem storeReport_quiet (b : Bay) (r : Report) : Quiet x s (storeReport b r s) where
  entries := rfl
  present c _ h := by
    simp only [storeReport, Fin.getElem_fin, Vector.getElem_set]
    split
    · rfl
    · exact h
  wash := rfl
  tag := rfl
  spray := rfl
  cycle := id
  header := .inl
  stall := id
  drive := id
  conflict := rfl
  frames := .of_link rfl

theorem comparePeer_quiet (b : Bay) (r : Report) : Quiet x s (comparePeer x b r s) :=
  .of_pump (comparePeer_told x s b r) (comparePeer_pumpOnly x b r s)

theorem repairAndCompare_wash {b : Bay} (hb : b ≠ x.bay) (r : Report) (hp : s.peers[b].presence = .present) :
    WashMoves x s (eitherOrder (repairFromStatus x b r) (comparePeer x b r) s) := by
  have hc : Quiet x s { s with choices := s.choices + 1 } := .of_eq
  rcases eitherOrder_cases (repairFromStatus x b r) (comparePeer x b r) s with h | h <;> rw [h]
  · exact .before (.after (repairFromStatus_wash x { s with choices := s.choices + 1 } hb r hp) hc) (comparePeer_quiet x _ b r)
  · exact .after (.after (repairFromStatus_wash x _ hb r (by simpa using hp)) (comparePeer_quiet x _ b r)) hc

theorem takeStatus_wash {b : Bay} (hb : b ≠ x.bay) (p : List Byte) : WashMoves x s (takeStatus x b p s) := by
  unfold takeStatus
  split
  next r _ =>
    have hst : WashMoves x s (storeReport b r (restartRemovals x b r s)) :=
      .before (restartRemovals_wash x s hb r) (storeReport_quiet x _ b r)
    have hpres : (storeReport b r (restartRemovals x b r s)).peers[b].presence = .present := by simp [storeReport]
    exact .trans hst (.ite (fun _ => repairAndCompare_wash x _ hb r hpres) fun _ => repairFromStatus_wash x _ hb r hpres)
  next => exact .refl s

theorem refreshEntry_quiet (b : Bay) : Quiet x s (refreshEntry b s) := by
  unfold refreshEntry
  split
  · exact age_quiet x s b 0
  · exact .refl s

theorem takeClaim_wash {b : Bay} (hb : b ≠ x.bay) (p : List Byte) : WashMoves x s (takeClaim x b p s) := by
  refine .after ?_ (refreshEntry_quiet x s b)
  unfold takeClaim
  dsimp only
  split
  · exact .ite (fun h => insertClaim_wash x _ hb _ _ _ h) fun _ => .refl _
  · exact .refl _

theorem takeRelease_wash {b : Bay} (hb : b ≠ x.bay) (p : List Byte) : WashMoves x s (takeRelease x b p s) :=
  .after (removeReleased_wash x _ hb _) (refreshEntry_quiet x s b)

theorem applyMasks_wash (o : OrderFields) : WashMoves x s (applyMasks x o s) := by
  unfold applyMasks
  split
  · exact .eitherOrder (fun t => .quiet (acknowledge_quiet x t)) (fun t => .check _ t) s
  · exact .quiet (acknowledge_quiet x s)
  · exact .check _ s
  · exact .refl s

theorem takeOrder_wash (p : List Byte) : WashMoves x s (takeOrder x p s) := by
  unfold takeOrder
  extract_lets o t r
  refine .ite (fun _ => .quiet (.of_eq rfl rfl rfl rfl rfl rfl rfl rfl)) fun _ => ?_
  refine .after (applyMasks_wash x _ o) ?_
  exact .of_eq rfl rfl rfl rfl rfl rfl rfl rfl

/-! ### A step at work -/

/-- The frames of the wash are told by the transmitter's state, the frame in hand and the queue. -/
theorem FramesKept.of_parts {s t : State} (h1 : t.link.inHand.map InHand.frame = s.link.inHand.map InHand.frame)
    (h2 : t.link.queue = s.link.queue) (h3 : t.link.tx = .mute ↔ s.link.tx = .mute) (hf : LinkFree t) : FramesKept s t := by
  refine ⟨hf, ?_, h3⟩
  unfold washFrames
  rw [h2]
  cases ht : t.link.inHand <;> cases hs : s.link.inHand <;> simp_all

/-- The prescaler, the capture and the stall window of an edge. -/
theorem shaftRises_quiet : Quiet x s (shaftRises x s) := by
  refine ⟨by simp, by simp, ?_, ?_, ?_, ?_, ?_, ?_, ?_, by simp, .of_link (by simp)⟩
  all_goals unfold shaftRises prescaledEdge
  case refine_1 | refine_2 | refine_3 => split_ifs <;> rfl
  case refine_4 => split_ifs <;> exact id
  case refine_5 => split_ifs <;> exact .inl
  case refine_6 =>
    split_ifs
    · exact id
    next h => exact fun _ => iff_of_true rfl h
    · exact id
  case refine_7 => split_ifs <;> exact id

theorem heard_wash : WashMoves x s (returnToLinked x { s with link := { s.link with receiver := .waitIdle } }) := by
  refine .after (returnToLinked_wash x _) ?_
  exact .of_screen (.quiet rfl rfl rfl rfl rfl rfl) rfl rfl rfl rfl

end

/-- The steps at work that do more to the wash: the cycle, the end of a frame of its own, and a bay conflict. -/
inductive WashSteps (x : Ctx) (s : State) : State → Prop
  | cycle (now d e : Clock) : s.screen.cycleTimer = some d →
      WashSteps x s (cycleStep x { s with clock := now, screen := { s.screen with cycleTimer := some e } })
  | completion (h : InHand) : s.link.tx = .send → s.link.inHand = some h → WashSteps x s
      (finishFrame x (tellCompletion x h.frame) { s with link := { s.link with receiver := .waitIdle } })
  | fail (now : Clock) : s.link.tx = .defer ∨ s.link.tx = .backoff → WashSteps x s (failAttempt x { s with clock := now })
  | conflict : WashSteps x s (bayConflictFound x { s with link := { s.link with receiver := .waitIdle } })

/-- The pump controller's steps leave the wash. -/
theorem Quiet.of_pumpAt {x : Ctx} {s u t : State} (hT : Told x false u t) (hP : PumpOnly u t) (hu : Quiet x s u)
    (hs : t.screen = u.screen := by simp) (hc : t.claims.entries = u.claims.entries := by simp) (hp : t.peers = u.peers := by simp) :
    Quiet x s t := hu.trans (.of_pump hT hP hs hc hp)

theorem LiveStep.wash_or {x : Ctx} {s t : State} (h : LiveStep x s t) : WashMoves x s t ∨ WashSteps x s t := by
  have hclock (now : Clock) : Quiet x s { s with clock := now } := .of_eq rfl rfl rfl rfl rfl rfl rfl rfl
  have hlines (l : Lines) : Quiet x s { s with lines := l } := .of_eq rfl rfl rfl rfl rfl rfl rfl rfl
  cases h
  case cycle now d e h => exact .inr (.cycle now d e h)
  case completion h ht hh => exact .inr (.completion h ht hh)
  case fail now ht => exact .inr (.fail now ht)
  case conflict => exact .inr .conflict
  all_goals refine .inl ?_
  case idle now l r _ => exact .quiet (.of_screen (.quiet rfl rfl rfl rfl rfl rfl) rfl rfl rfl rfl)
  case sample => exact .after (sampleStep_wash x _ _ _) (.of_eq rfl rfl rfl rfl rfl rfl rfl rfl)
  case settle => exact .quiet (.of_eq rfl rfl rfl rfl rfl rfl rfl rfl)
  case ageing => exact .after (ageingStep_wash x _) (.of_eq rfl rfl rfl rfl rfl rfl rfl rfl)
  case tide => exact .after (.quiet (tideStep_quiet x _)) (.of_eq rfl rfl rfl rfl rfl rfl rfl rfl)
  case trend => exact .after (trendStep_wash x _) (.of_eq rfl rfl rfl rfl rfl rfl rfl rfl)
  case range now d =>
    have hr : Quiet x s { s with clock := now, claims := { s.claims with rangeTimer := d } } :=
      .of_eq rfl rfl rfl rfl rfl rfl rfl rfl
    exact .after (.list _ (afterRangeExpiry_listed x { s with clock := now, claims := { s.claims with rangeTimer := d } })
      (afterRangeExpiry_ownKept x { s with clock := now, claims := { s.claims with rangeTimer := d } })) hr
  case gap => exact .after (.check _ _) (.of_timers _ _ _ _ _ _)
  case interval => exact .quiet (.of_timers _ _ _ _ _ _)
  case shaft => exact .quiet (shaftRises_quiet x s)
  case stall now _ _ => exact stallRises_wash x s now
  case headerOpens l _ hsp =>
    exact .quiet ⟨rfl, fun _ _ h => h, rfl, rfl, rfl, id, fun _ => .inr hsp, id, id, rfl, .of_link rfl⟩
  case headerCloses => exact .quiet ⟨rfl, fun _ _ h => h, rfl, rfl, rfl, id, fun h => by simp at h, id, id, rfl, .of_link rfl⟩
  case header now =>
    exact .after (headerFails_wash x _) ⟨rfl, fun _ _ h => h, rfl, rfl, rfl, id, fun h => by simp at h, id, id, rfl, .of_link rfl⟩
  case retry => exact .quiet (.trans (.of_timers _ _ _ _ _ _) (.cond .washWaterFail _ _))
  case duty now d =>
    have hd : Quiet x s { s with clock := now, duty := { s.duty with timer := d } } := .of_eq rfl rfl rfl rfl rfl rfl rfl rfl
    exact .quiet (.of_pumpAt (dutyStep_told x _) (dutyStep_pumpOnly x _) hd)
  case status now d =>
    refine .quiet (.trans ?_ (.offerStatus _))
    exact .of_screen (.quiet rfl rfl rfl rfl rfl rfl) rfl rfl rfl rfl
  case attempt h ht hh =>
    exact .quiet (.of_frames (fun _ => .of_parts (by simp [hh]) rfl (by simp [ht]) (by simp [LinkFree])) rfl rfl rfl rfl rfl)
  case collision r ht =>
    exact .quiet (.of_frames (fun _ => .of_parts rfl rfl (by simp [ht]) (by simp [LinkFree])) rfl rfl rfl rfl rfl)
  case statusFrame b p hb => exact .trans (heard_wash x s) (takeStatus_wash x _ hb p)
  case claimFrame b p hb => exact .trans (heard_wash x s) (takeClaim_wash x _ hb p)
  case releaseFrame b p hb => exact .trans (heard_wash x s) (takeRelease_wash x _ hb p)
  case orderFrame p => exact .trans (heard_wash x s) (takeOrder_wash x _ p)
  case record now l hp _ _ => exact .quiet (.of_eq rfl rfl rfl hp rfl rfl rfl rfl)
  case ack l _ => exact .quiet (.trans (hlines l) (acknowledge_quiet x _))
  case guardStops => exact .quiet (.of_eq rfl rfl rfl rfl rfl rfl rfl rfl)
  case minRun => exact .quiet (.of_eq rfl rfl rfl rfl rfl rfl rfl rfl)
  case minStop => exact .quiet (.of_eq rfl rfl rfl rfl rfl rfl rfl rfl)
  case pulseEnds => exact .quiet (.of_eq rfl rfl rfl rfl rfl rfl rfl rfl)
  case ringAge now => exact .quiet (.trans (hclock now) .of_eq)
  case guardWithdraws => exact .quiet (.of_pumpAt (withdrawStart_told x _ _) (withdrawStart_pumpOnly x _ _) .of_eq)
  case guardStarts => exact .quiet (.of_pumpAt (enterStarting_told x _) (enterStarting_pumpOnly x _) .of_eq)
  case startTimeout now _ => exact .quiet (.trans (.of_pumpAt (enterFailed_told x _) (enterFailed_pumpOnly x _) (hclock now)) .of_eq)
  case stopFails now _ _ => exact .quiet (.of_pumpAt (enterFailed_told x _) (enterFailed_pumpOnly x _) (hclock now))
  case stopEnds now _ _ => exact .quiet (.of_pumpAt (enterStopped_told x _) (enterStopped_pumpOnly x _) (hclock now))
  case stopPulseEnds now _ _ =>
    exact .quiet (.of_pumpAt (enterStopped_told x _) (enterStopped_pumpOnly x _) (.trans (hclock now) .of_eq))
  case minute now d e _ =>
    exact .quiet (.of_pumpAt (u := { s with clock := now, pump := { s.pump with minuteTimer := some e, minuteAcc := 0 } }) .of_eq
      (addMinute_pumpOnly _) .of_eq)
  case runCloses =>
    have hn : Quiet x s { s with lines := { s.lines with run := true } } := hlines _
    exact .quiet (.of_pumpAt (runClosedInState_told x _) (runClosedInState_pumpOnly x _)
      (.of_pumpAt (u := { s with lines := { s.lines with run := true } }) .of_eq (noteCounted_pumpOnly x _ _) hn))
  case runOpens =>
    have hn : Quiet x s { s with lines := { s.lines with run := false } } := hlines _
    exact .quiet (.of_pumpAt (runOpenedInState_told x _) (runOpenedInState_pumpOnly x _)
      (.of_pumpAt (u := { s with lines := { s.lines with run := false } }) .of_eq (noteCounted_pumpOnly x _ _) hn))
  case tripCloses l _ _ => exact .quiet (.of_pumpAt (enterTripped_told x _) (enterTripped_pumpOnly x _) (hlines l))
  case tripFails l _ _ _ => exact .quiet (.of_pumpAt (enterFailed_told x _) (enterFailed_pumpOnly x _) (hlines l))
  case tripEnds l _ _ _ => exact .quiet (.of_pumpAt (enterStopped_told x _) (enterStopped_pumpOnly x _) (hlines l))
  case localCloses l _ => exact .quiet (.of_pumpAt (enterLocked_told x _) (enterLocked_pumpOnly x _) (hlines l))
  case localOpens l _ _ => exact .quiet (.of_pumpAt (leaveLocked_told x _) (leaveLocked_pumpOnly x _) (hlines l))

end Sys2Proof.Machine
end

section
/-! PROOF. The laws of the drive and the spray: the statement O51. -/

namespace Sys2Proof.Machine

set_option Elab.async false

/-- The laws of the drive and the spray at every moment. -/
structure ScreenOk (s : State) : Prop where
  drive       : s.screen.drive = driveChoice s
  spray       : s.screen.spray = true → s.screen.wash = .washing
  cycleTimer  : s.screen.cycleTimer.isSome = true → s.screen.wash = .washing
  stallTimer  : s.screen.stallTimer.isSome = true ↔ s.screen.drive ≠ .off
  headerTimer : s.screen.headerTimer.isSome = true → s.screen.spray = true
  conflict    : s.conds.bayConflict = true → s.screen.wash = .idle

namespace ScreenOk

variable {x : Ctx} {s t : State}

theorem quiet (h : ScreenOk s) (hq : Quiet x s t) : ScreenOk t where
  drive := hq.drive h.drive
  spray ht := hq.wash ▸ h.spray (hq.spray ▸ ht)
  cycleTimer ht := hq.wash ▸ h.cycleTimer (hq.cycle ht)
  stallTimer := hq.stall h.stallTimer
  headerTimer ht := hq.spray ▸ (hq.header ht).elim h.headerTimer id
  conflict ht := hq.wash ▸ h.conflict (hq.conflict ▸ ht)

/-- In every state but IDLE there is no bay conflict. -/
theorem noConflict (h : ScreenOk s) (hw : s.screen.wash ≠ .idle) : s.conds.bayConflict = false :=
  Bool.eq_false_iff.2 fun hb => hw (h.conflict hb)

theorem of_eq (h : ScreenOk s) (hs : t.screen = s.screen := by simp) (hb : t.conds.bayConflict = s.conds.bayConflict := by simp)
    (hd : driveChoice t = driveChoice s := by apply driveChoice_congr <;> simp) : ScreenOk t where
  drive := by rw [hs, hd]; exact h.drive
  spray := by rw [hs]; exact h.spray
  cycleTimer := by rw [hs]; exact h.cycleTimer
  stallTimer := by rw [hs]; exact h.stallTimer
  headerTimer := by rw [hs]; exact h.headerTimer
  conflict := by rw [hs, hb]; exact h.conflict

end ScreenOk

section
variable {x : Ctx} {s : State}

theorem selectDrive_stallTimer (h : s.screen.stallTimer.isSome = true ↔ s.screen.drive ≠ .off) :
    (selectDrive x s).screen.stallTimer.isSome = true ↔ (selectDrive x s).screen.drive ≠ .off :=
  (Quiet.select (x := x) (.refl s)).stall h

theorem setWash_screenOk {w : WashState} (hd : s.screen.drive = driveChoice s)
    (hst : s.screen.stallTimer.isSome = true ↔ s.screen.drive ≠ .off) (hsp : s.screen.spray = true → w = .washing)
    (hcy : s.screen.cycleTimer.isSome = true → w = .washing) (hh : s.screen.headerTimer.isSome = true → s.screen.spray = true)
    (hc : s.conds.bayConflict = true → w = .idle) : ScreenOk (setWash x w s) := by
  refine ⟨?_, by simpa using hsp, by simpa using hcy, ?_, by simpa using hh, by simpa using hc⟩
  · by_cases hw : s.screen.wash = w
    · simpa [setWash, hw] using hd
    · exact setWash_drive hw
  · unfold setWash
    split
    · exact hst
    · simpa using selectDrive_stallTimer (x := x) (s := { s with screen := { s.screen with wash := w } }) hst

/-- A change of wash state with nothing drawing on the header. -/
theorem stopped_screenOk {w : WashState} {f : State → State} (h : ScreenOk s) (hf : ∀ t, (f t).screen = t.screen)
    (hb : ∀ t, (f t).conds = t.conds) (hd : ∀ t, driveChoice (f t) = driveChoice t)
    (hc : s.conds.bayConflict = true → w = .idle) : ScreenOk (setWash x w (f (stopWashing s))) := by
  refine setWash_screenOk ?_ ?_ ?_ ?_ ?_ (by rw [hb]; exact hc) <;> rw [hf]
  · rw [hd]; exact h.drive
  · exact h.stallTimer
  · simp [stopWashing, stopCycle, sprayOff]
  · simp [stopWashing, stopCycle]
  · simp [stopWashing, stopCycle, sprayOff]

theorem releaseClaim_screenOk (h : ScreenOk s) (hw : s.screen.wash ≠ .idle) : ScreenOk (releaseClaim x s) :=
  stopped_screenOk (f := offer x (.release s.screen.tag)) h (by simp) (by simp)
    (fun t => by apply driveChoice_congr <;> simp) fun hb => absurd hb (by simp [h.noConflict hw])

theorem yieldWash_screenOk (h : ScreenOk s) (hw : s.screen.wash ≠ .idle) : ScreenOk (yieldWash x s) :=
  stopped_screenOk (f := id) h (fun _ => rfl) (fun _ => rfl) (fun _ => rfl) fun hb => absurd hb (by simp [h.noConflict hw])

/-- A change of wash state to one that does not draw on the header, from one that does not. -/
theorem ScreenOk.setWash {w : WashState} (h : ScreenOk s) (hw : s.screen.wash ≠ .washing) (hc : s.conds.bayConflict = true → w = .idle) :
    ScreenOk (setWash x w s) :=
  setWash_screenOk h.drive h.stallTimer (fun hsp => absurd (h.spray hsp) hw) (fun hcy => absurd (h.cycleTimer hcy) hw)
    h.headerTimer hc

theorem freshCycle_screenOk (h : ScreenOk s) (hw : s.screen.wash = .washing) : ScreenOk (freshCycle x s) := by
  unfold freshCycle sprayOn
  dsimp only
  split_ifs with h1 h2
  · exact ⟨h.drive, h.spray, h.cycleTimer, h.stallTimer, h.headerTimer, h.conflict⟩
  · exact ⟨h.drive, fun _ => hw, h.cycleTimer, h.stallTimer, fun _ => rfl, h.conflict⟩
  · exact ⟨h.drive, fun _ => hw, h.cycleTimer, h.stallTimer, fun _ => rfl, h.conflict⟩
  · exact ⟨h.drive, h.spray, h.cycleTimer, h.stallTimer, h.headerTimer, h.conflict⟩

/-- The wash goes on with a working copy just loaded. -/
theorem reloaded_screenOk (h : ScreenOk s) (hw : s.screen.wash = .washing) : ScreenOk (continueWash x (loadWorking x s)) := by
  have hl : ScreenOk (loadWorking x s) := ⟨h.drive, h.spray, h.cycleTimer, h.stallTimer, h.headerTimer, h.conflict⟩
  unfold continueWash
  split
  · exact releaseClaim_screenOk hl (by simp [loadWorking, hw])
  · exact freshCycle_screenOk hl hw

theorem enterWashing_screenOk (h : ScreenOk s) (hw : s.screen.wash ≠ .idle) : ScreenOk (enterWashing x s) := by
  have hset : ScreenOk (setWash x .washing s) := setWash_screenOk h.drive h.stallTimer (fun _ => rfl) (fun _ => rfl) h.headerTimer
    fun hb => absurd hb (by simp [h.noConflict hw])
  have hwash : (setWash x .washing s).screen.wash = .washing := by simp
  have hstart : ScreenOk (startCycleTimer (setWash x .washing s)) :=
    ⟨hset.drive, hset.spray, fun _ => hwash, hset.stallTimer, hset.headerTimer, hset.conflict⟩
  exact reloaded_screenOk hstart hwash

theorem handStanding_screenOk (st : Standing) (h : ScreenOk s) : ScreenOk (handStanding x st s) := by
  unfold handStanding
  split
  next _ _ hw => exact enterWashing_screenOk h (by simp [hw])
  next _ _ hw => exact h.setWash (by simp [hw]) fun hb => absurd hb (by simp [h.noConflict (by simp [hw])])
  next _ _ hw => exact enterWashing_screenOk h (by simp [hw])
  next _ _ hw => exact yieldWash_screenOk h (by simp [hw])
  next _ _ hw => exact enterWashing_screenOk h (by simp [hw])
  next => exact h

theorem changeList_screenOk (l : List Claim) (h : ScreenOk s) : ScreenOk (changeList x l s) := by
  have ht : ScreenOk { s with claims := { s.claims with entries := regraded x l } } := h.of_eq
  unfold changeList
  dsimp only
  split
  · exact ht
  · exact handStanding_screenOk _ ht

theorem removeClaim_screenOk (b : Bay) (h : ScreenOk s) : ScreenOk (removeClaim x b s) := by
  unfold removeClaim
  split
  · exact changeList_screenOk _ h
  · exact h

theorem removeReleased_screenOk (b : Bay) (tag : Nat) (h : ScreenOk s) : ScreenOk (removeReleased x b tag s) := by
  unfold removeReleased
  split
  · exact removeClaim_screenOk b h
  · exact h

theorem washEnd_screenOk (h : ScreenOk s) : ScreenOk (washEnd x s) := by
  unfold washEnd
  split
  next hw => exact ScreenOk.setWash (h.quiet (x := x) (.of_timers s.clock _ _ s.screen.retryTimer _ s)) (by simp [hw]) fun _ => rfl
  next => exact h

theorem claimDropped_screenOk (h : ScreenOk s) : ScreenOk (claimDropped x s) := by
  unfold claimDropped
  split
  next hw => exact h.setWash (by simp [hw]) fun _ => rfl
  next => exact h

theorem abortWash_screenOk (h : ScreenOk s) : ScreenOk (abortWash x s) := by
  unfold abortWash
  split
  next => exact h
  next => exact h
  next hw =>
    split
    · exact ScreenOk.setWash (h.of_eq) (by simp [hw]) fun _ => rfl
    · exact releaseClaim_screenOk h (by simp [hw])
  all_goals
    next hw => exact releaseClaim_screenOk h (by simp [hw])

theorem chosenClass_noConflict {c : Settings} {e : TriggerEvent} {k : ClaimClass} (h : chosenClass c e s = some k) :
    s.conds.bayConflict = false := by
  by_contra hb
  simp [chosenClass, claimsBlocked, hb] at h

theorem makeClaim_screenOk (k : ClaimClass) (h : ScreenOk s) (hw : s.screen.wash = .idle) (hb : s.conds.bayConflict = false) :
    ScreenOk (makeClaim x k s) := by
  have ht : ScreenOk { s with screen := { s.screen with tag := (s.screen.tag + 1) % 16, cls := k, completed := 0 } } :=
    ⟨h.drive, h.spray, h.cycleTimer, h.stallTimer, h.headerTimer, h.conflict⟩
  refine ScreenOk.setWash (ht.of_eq) (by simp [hw]) fun hc => absurd hc (by simp [hb])

theorem triggerCheck_screenOk (e : TriggerEvent) (h : ScreenOk s) : ScreenOk (triggerCheck x e s) := by
  unfold triggerCheck
  split
  next hi =>
    split
    next k hk => exact makeClaim_screenOk k h (by simp_all) (chosenClass_noConflict hk)
    next => exact h
  next => exact h

theorem WashMoves.screenOk {t : State} (hm : WashMoves x s t) (h : ScreenOk s) : ScreenOk t := by
  induction hm with
  | quiet hq => exact h.quiet hq
  | check e s => exact triggerCheck_screenOk e h
  | abort s => exact abortWash_screenOk h
  | list s => exact changeList_screenOk _ h
  | silent b s => exact removeClaim_screenOk b h.of_eq
  | trans _ _ ih1 ih2 => exact ih2 (ih1 h)

theorem cycleEnd_screenOk (h : ScreenOk s) (hw : s.screen.wash = .washing) : ScreenOk (cycleEnd x s) :=
  reloaded_screenOk ⟨h.drive, fun _ => hw, h.cycleTimer, h.stallTimer, by simp [sprayOff], h.conflict⟩ hw

@[simp] theorem sprayOn_screen_kept (x : Ctx) (s : State) :
    (sprayOn x s).screen.wash = s.screen.wash ∧ (sprayOn x s).screen.tag = s.screen.tag ∧
    (sprayOn x s).screen.cls = s.screen.cls ∧ (sprayOn x s).screen.completed = s.screen.completed ∧
    (sprayOn x s).screen.working = s.screen.working ∧ (sprayOn x s).screen.cycleCount = s.screen.cycleCount ∧
    (sprayOn x s).screen.cycleTimer = s.screen.cycleTimer ∧ (sprayOn x s).screen.drive = s.screen.drive ∧
    (sprayOn x s).screen.prescale = s.screen.prescale ∧ (sprayOn x s).screen.lastCapture = s.screen.lastCapture ∧
    (sprayOn x s).screen.period = s.screen.period ∧ (sprayOn x s).screen.stallTimer = s.screen.stallTimer ∧
    (sprayOn x s).screen.retryTimer = s.screen.retryTimer ∧ (sprayOn x s).screen.gapTimer = s.screen.gapTimer ∧
    (sprayOn x s).screen.intervalTimer = s.screen.intervalTimer ∧ (sprayOn x s).screen.intervalDue = s.screen.intervalDue ∧
    (sprayOn x s).screen.spray = true := by
  unfold sprayOn
  split <;> simp_all

theorem sprayOn_screenOk (h : ScreenOk s) (hw : s.screen.wash = .washing) : ScreenOk (sprayOn x s) := by
  unfold sprayOn
  split
  · exact h
  · exact ⟨h.drive, fun _ => hw, h.cycleTimer, h.stallTimer, fun _ => rfl, h.conflict⟩

theorem cycleStep_screenOk (h : ScreenOk s) (hw : s.screen.wash = .washing) : ScreenOk (cycleStep x s) := by
  unfold cycleStep
  extract_lets c t u
  have ht : ScreenOk t := ⟨h.drive, h.spray, h.cycleTimer, h.stallTimer, h.headerTimer, h.conflict⟩
  have hu : ScreenOk u ∧ u.screen.wash = .washing := by
    simp only [u]
    split
    · exact ⟨sprayOn_screenOk ht hw, by simpa [t] using hw⟩
    · exact ⟨ht, hw⟩
  split
  · exact cycleEnd_screenOk hu.1 hu.2
  · exact hu.1

theorem finishFrame_screenOk {tell : State → State} (h : ScreenOk s) (htell : ∀ t, ScreenOk t → ScreenOk (tell t)) :
    ScreenOk (finishFrame x tell s) := by
  unfold finishFrame
  dsimp only
  refine ScreenOk.of_eq (htell { s with link := { s.link with inHand := none, accessTimer := none } } (h.of_eq rfl rfl rfl))

theorem tellCompletion_screenOk (f : TxFrame) (h : ScreenOk s) : ScreenOk (tellCompletion x f s) := by
  unfold tellCompletion
  split
  · exact h
  · exact changeList_screenOk _ h
  · exact washEnd_screenOk (removeReleased_screenOk _ _ h)

theorem tellDrop_screenOk (f : TxFrame) (h : ScreenOk s) : ScreenOk (tellDrop x f s) := by
  unfold tellDrop
  split
  · exact h
  · exact claimDropped_screenOk h
  · exact washEnd_screenOk (removeReleased_screenOk _ _ h)

/-! ### A bay conflict -/

theorem handStanding_none : handStanding x .none s = s := by
  unfold handStanding
  split <;> simp_all

theorem standingIn_eq_none_iff {l : List Claim} : standingIn x l = .none ↔ ∀ e ∈ l, e.bay ≠ x.bay := by
  unfold standingIn
  split
  next i hi =>
    have hi' := List.findIdx?_eq_some_iff_getElem.1 hi
    obtain ⟨hlt, hp, -⟩ := hi'
    refine iff_of_false (by split <;> simp) fun hall => hall _ (List.getElem_mem hlt) (by simpa using hp)
  next hn => simpa using hn

/-- The own claim leaves the list without a word to the controller, whatever its standing. -/
theorem removeClaim_own : ∃ l, (∀ e ∈ l, e.bay ≠ x.bay) ∧
    removeClaim x x.bay s = { s with claims := { s.claims with entries := l } } := by
  unfold removeClaim
  split
  next =>
    have hl : ∀ e ∈ withoutBay x.bay s.claims.entries, e.bay ≠ x.bay := by simp [withoutBay]
    refine ⟨regraded x (withoutBay x.bay s.claims.entries), ?_, ?_⟩
    · intro e he
      obtain ⟨i, hlt, rfl⟩ := List.mem_iff_getElem.1 he
      have hbay : (regraded x (withoutBay x.bay s.claims.entries))[i].bay =
          ((withoutBay x.bay s.claims.entries)[i]'(by simpa using hlt)).bay := by
        simp only [regraded, List.getElem_mapIdx]
        split <;> rfl
      rw [hbay]
      exact hl _ (List.getElem_mem _)
    · simp [changeList, standingIn_eq_none_iff.2 hl, handStanding_none]
  next h => exact ⟨s.claims.entries, by simpa using h, rfl⟩

theorem conflictAtScreen_screenOk (h : s.screen.stallTimer.isSome = true ↔ s.screen.drive ≠ .off) :
    ScreenOk (conflictAtScreen x s) := by
  unfold conflictAtScreen
  have hst : (setWash x .idle (stopWashing s)).screen.stallTimer.isSome = true ↔
      (setWash x .idle (stopWashing s)).screen.drive ≠ .off := by
    unfold setWash
    split
    · exact h
    · simpa using selectDrive_stallTimer (x := x) (s := { stopWashing s with screen := { (stopWashing s).screen with wash := .idle } }) h
  refine ⟨by simp, ?_, ?_, selectDrive_stallTimer hst, ?_, by simp⟩ <;> simp [stopWashing, stopCycle, sprayOff]

theorem bayConflictFound_screenOk (h : ScreenOk s) : ScreenOk (bayConflictFound x s) := by
  unfold bayConflictFound
  extract_lets t l u
  split
  · exact h
  · obtain ⟨es, -, hl⟩ := removeClaim_own (x := x) (s := u)
    refine ScreenOk.quiet (x := x) (conflictAtScreen_screenOk ?_) (.of_pump (conflictAtPump_told x _) (conflictAtPump_pumpOnly x _))
    rw [hl]
    simpa [u, t] using h.stallTimer

theorem LiveStep.screenOk {t : State} (hx : LiveStep x s t) (h : ScreenOk s) : ScreenOk t := by
  rcases hx.wash_or with hm | hs
  · exact hm.screenOk h
  cases hs
  case cycle now d e hc =>
    have hw : s.screen.wash = .washing := h.cycleTimer (by simp [hc])
    exact cycleStep_screenOk ⟨h.drive, h.spray, fun _ => hw, h.stallTimer, h.headerTimer, h.conflict⟩ hw
  case completion hh _ _ => exact finishFrame_screenOk (h.of_eq rfl rfl rfl) fun t => tellCompletion_screenOk hh.frame
  case fail now _ =>
    have hn : ScreenOk { s with clock := now } := h.of_eq rfl rfl rfl
    unfold failAttempt
    split
    · split
      · exact hn.of_eq rfl rfl rfl
      · exact finishFrame_screenOk hn fun t => tellDrop_screenOk _
    · exact hn
  case conflict => exact bayConflictFound_screenOk (h.of_eq rfl rfl rfl)

/-! ### LISTENING entry -/

/-- LISTENING entry leaves the screen controller but for the drive. -/
@[simp] theorem enterListening_screen_kept (x : Ctx) (s : State) :
    (enterListening x s).screen.wash = s.screen.wash ∧ (enterListening x s).screen.tag = s.screen.tag ∧
    (enterListening x s).screen.cls = s.screen.cls ∧ (enterListening x s).screen.completed = s.screen.completed ∧
    (enterListening x s).screen.working = s.screen.working ∧ (enterListening x s).screen.cycleCount = s.screen.cycleCount ∧
    (enterListening x s).screen.cycleTimer = s.screen.cycleTimer ∧ (enterListening x s).screen.headerTimer = s.screen.headerTimer ∧
    (enterListening x s).screen.retryTimer = s.screen.retryTimer ∧ (enterListening x s).screen.gapTimer = s.screen.gapTimer ∧
    (enterListening x s).screen.intervalTimer = s.screen.intervalTimer ∧
    (enterListening x s).screen.intervalDue = s.screen.intervalDue ∧ (enterListening x s).screen.spray = s.screen.spray := by
  unfold enterListening startLink startTimers ownEntryPresent
  dsimp only
  split_ifs <;> simp

/-- LISTENING entry chooses the drive after the timers have started. -/
theorem enterListening_screenOk (h : ScreenOk s) : ScreenOk (enterListening x s) := by
  unfold enterListening
  extract_lets l a b c d
  have hb : ScreenOk b := by
    have hst : (startTimers x (ownEntryPresent x a)).screen = s.screen := by simp [startTimers, ownEntryPresent, a]
    refine ⟨by simp [b], ?_, ?_, selectDrive_stallTimer (by rw [hst]; exact h.stallTimer), ?_, ?_⟩ <;>
      simp only [b, selectDrive_screen_kept, hst]
    · exact h.spray
    · exact h.cycleTimer
    · exact h.headerTimer
    · simpa [startTimers, ownEntryPresent, a] using h.conflict
  have hc : ScreenOk c := by
    simp only [c]
    split
    · exact hb.of_eq
    · exact hb
  have hd : ScreenOk d := by
    simp only [d]
    split
    · exact hc.quiet (annunciate_quiet x c .pumpTrip true)
    · exact hc
  exact hd.of_eq (by simp [startLink]) (by simp [startLink]) (by apply driveChoice_congr <;> simp [startLink])

theorem ScreenLaw.ok (h : ScreenLaw s) : ScreenOk s :=
  ⟨h.drive, h.spray, h.cycleTimer, h.stallTimer, h.headerTimer, h.conflict⟩

theorem ScreenLaw.of_ok (hl : ResetLoads s) (h : ScreenOk s) (hr : atRest s → s.screen.wash = .idle) : ScreenLaw s :=
  ⟨hl, h.drive, h.spray, h.cycleTimer, h.stallTimer, h.headerTimer, h.conflict, hr⟩

/-- The drive is off before LISTENING entry and in HALTED. -/
theorem driveChoice_rest (h : atRest s) : driveChoice s = .off := by
  rcases h with h | h <;> simp [driveChoice, h]

theorem ScreenLaw.step {t : State} (hs : ScreenLaw s) (h : step s = .next t) : ScreenLaw t := by
  refine step_keeps (P := ScreenLaw) ?_ ?_ ?_ ?_ ?_ hs h
  · exact fun s q h => .of_ok h.loads (h.ok.of_eq rfl rfl rfl) h.rest
  · exact fun s c h => .of_ok h.loads (h.ok.of_eq rfl rfl rfl) h.rest
  · intro s
    constructor <;> simp [resetStation, ResetLoads, Loader.reset, Screen.reset, Conds.reset, driveChoice]
  · exact fun x s t hs hx hl =>
      .of_ok (resetLoads_of_ctx (hl.ctx hx)) (hl.screenOk hs.ok) fun hr => absurd hr (not_atRest_of_ctx (hl.ctx hx))
  · refine fun s t hs hx hr => hr.keeps (fun _ h => h.loads) ?_ ?_ ?_ hs hx
    · exact fun s l r h _ => .of_ok h.loads (h.ok.of_eq rfl rfl rfl) h.rest
    · intro s r l w h hrest hp hr _
      have hrest' : atRest { s with inReset := r, loader := l, screen := { s.screen with working := w } } := hp
      refine .of_ok hr ⟨?_, h.spray, h.cycleTimer, h.stallTimer, h.headerTimer, h.conflict⟩ fun _ => h.rest hrest
      rw [driveChoice_rest hrest']
      exact h.drive.trans (driveChoice_rest hrest)
    · intro s x record hs hrest _ hx
      refine .of_ok (resetLoads_of_ctx hx) (enterListening_screenOk ?_) fun hr => absurd hr (not_atRest_of_ctx hx)
      refine hs.ok.of_eq (by simp [adopt]) (by simp [adopt]) ?_
      apply driveChoice_congr <;> simp [adopt]

end

/-- Settles O51: every choice of the drive is R103's, and what it reads changes with a choice alone. -/
theorem everyStepKeepsTheScreenLaw : Obligations.EveryStepKeepsTheScreenLaw := by
  intro s t hs h
  have ht := hs.step h
  refine ⟨ht, fun u => by simp [driveChoice, or_assoc], by simp [outputs], by simp [outputs], by simp [outputs], ?_, ?_⟩
  · simp only [outputs, decide_eq_true_eq]
    rintro ⟨h1, h2⟩
    simp [h1] at h2
  · simp only [outputs, decide_eq_true_eq]
    rintro (h1 | h1)
    · by_contra hw
      have hd := ht.drive
      simp only [driveChoice] at hd
      split_ifs at hd <;> simp_all
    · exact ht.spray h1

end Sys2Proof.Machine
end

section
/-! PROOF. The law of the claim list: the statement O57. -/

namespace Sys2Proof.Machine

set_option Elab.async false

/-! ### The grant range and the own standing -/

@[simp] theorem regraded_keys (x : Ctx) (l : List Claim) : (regraded x l).map claimKey = l.map claimKey := by
  refine List.ext_getElem? fun i => ?_
  rw [List.getElem?_map, List.getElem?_map, regraded_getElem?]
  cases l[i]? with
  | none => rfl
  | some e => simp only [Option.map_some]; split <;> rfl

theorem regraded_regraded (x : Ctx) (l : List Claim) : regraded x (regraded x l) = regraded x l := by
  refine List.ext_getElem? fun i => ?_
  rw [regraded_getElem?, regraded_getElem?]
  cases l[i]? with
  | none => rfl
  | some e => simp only [Option.map_some]; split_ifs <;> simp_all

/-- The first own entry gives the own standing, in a list of one entry a bay. -/
theorem standingIn_eq_inRange_iff {x : Ctx} {l : List Claim} :
    standingIn x l = .inRange ↔ ∃ i e, i < x.cfg.washHeaders ∧ l[i]? = some e ∧ e.bay = x.bay := by
  unfold standingIn
  cases hf : l.findIdx? (fun e => e.bay = x.bay) with
  | none =>
    rw [List.findIdx?_eq_none_iff] at hf
    refine iff_of_false (by simp) ?_
    rintro ⟨i, e, -, he, hb⟩
    exact absurd hb (by simpa using hf e (List.mem_of_getElem? he))
  | some i =>
    obtain ⟨hlt, hp, hfirst⟩ := List.findIdx?_eq_some_iff_getElem.1 hf
    by_cases hi : i < x.cfg.washHeaders
    · refine iff_of_true (by simp [inGrantRange, hi]) ⟨i, l[i], hi, List.getElem?_eq_getElem hlt, by simpa using hp⟩
    · refine iff_of_false (by simp [inGrantRange, hi]) ?_
      rintro ⟨j, e, hj, he, hb⟩
      have hji : j < i := by omega
      obtain ⟨hjl, rfl⟩ := List.getElem?_eq_some_iff.1 he
      exact absurd hb (by simpa using hfirst j hji)

/-! ### The law at work -/

/-- The law of the claim list at work. -/
structure ClaimOk (x : Ctx) (s : State) : Prop where
  single  : (s.claims.entries.map Claim.bay).Nodup
  ordered : urgentFirst s.claims.entries
  present : ∀ e ∈ s.claims.entries, e.bay ≠ x.bay → s.peers[e.bay].presence = .present
  timed   : s.claims.entries = regraded x s.claims.entries

section
variable {x : Ctx} {s t : State}

theorem ClaimOk.of_eq (h : ClaimOk x s) (hc : t.claims.entries = s.claims.entries := by simp)
    (hp : t.peers = s.peers := by simp) : ClaimOk x t :=
  ⟨by rw [hc]; exact h.single, by rw [hc]; exact h.ordered, by rw [hc]; simpa [hp] using h.present, by rw [hc]; exact h.timed⟩

@[simp] theorem changeList_entries (l : List Claim) : (changeList x l s).claims.entries = regraded x l := by
  unfold changeList
  dsimp only
  split <;> simp

/-- A change to a list in its order, with entries of PRESENT bays. -/
theorem changeList_claimOk {l : List Claim} (hbays : (l.map Claim.bay).Nodup) (hord : urgentFirst l)
    (hpres : ∀ e ∈ l, e.bay ≠ x.bay → s.peers[e.bay].presence = .present) : ClaimOk x (changeList x l s) := by
  refine ⟨?_, ?_, ?_, ?_⟩ <;> rw [changeList_entries]
  · rw [map_bay_eq, regraded_keys, ← map_bay_eq]; exact hbays
  · rw [urgentFirst_iff, regraded_keys, ← urgentFirst_iff]; exact hord
  · intro e he hne
    have hmem : claimKey e ∈ l.map claimKey := by
      rw [← regraded_keys x l]; exact List.mem_map_of_mem he
    obtain ⟨e', he', hk⟩ := List.mem_map.1 hmem
    have hbay : e'.bay = e.bay := congrArg Prod.fst hk
    have hp := hpres e' he' (by rwa [hbay])
    simpa only [hbay, changeList_frame] using hp
  · exact (regraded_regraded x l).symm

theorem Listed.claimOk {l : List Claim} (hl : Listed x s l) (h : ClaimOk x s) : ClaimOk x (changeList x l s) :=
  changeList_claimOk (hl.single h.single) (hl.ordered h.ordered) (hl.present h.present)

/-- A bay that falls SILENT leaves the list at once. -/
theorem removeClaim_silent_claimOk {b : Bay} {p : PeerEntry} (h : ClaimOk x s) :
    ClaimOk x (removeClaim x b { s with peers := s.peers.set b p }) := by
  have hpres (e : Claim) (he : e ∈ s.claims.entries) (hb : e.bay ≠ b) (hne : e.bay ≠ x.bay) :
      (s.peers.set b p)[e.bay].presence = .present := by
    have hother : (s.peers.set b p)[e.bay] = s.peers[e.bay] := by
      simp only [Fin.getElem_fin]
      exact Vector.getElem_set_ne _ _ fun hcb => hb (Fin.ext hcb.symm)
    rw [hother]
    exact h.present e he hne
  have hl := withoutBay_listed x b s
  unfold removeClaim
  split
  next =>
    refine changeList_claimOk (hl.single h.single) (hl.ordered h.ordered) fun e he hne => ?_
    obtain ⟨hmem, hb⟩ : e ∈ s.claims.entries ∧ e.bay ≠ b := by simpa [withoutBay] using he
    exact hpres e hmem hb hne
  next hno =>
    have hb : ∀ e ∈ s.claims.entries, e.bay ≠ b := by simpa using hno
    exact ⟨h.single, h.ordered, fun e he hne => hpres e he (hb e he) hne, h.timed⟩

theorem removeClaim_claimOk (b : Bay) (h : ClaimOk x s) : ClaimOk x (removeClaim x b s) := by
  unfold removeClaim
  split
  · exact (withoutBay_listed x b s).claimOk h
  · exact h

theorem removeReleased_claimOk (b : Bay) (tag : Nat) (h : ClaimOk x s) : ClaimOk x (removeReleased x b tag s) := by
  unfold removeReleased
  split
  · exact removeClaim_claimOk b h
  · exact h

theorem WashMoves.claimOk (hm : WashMoves x s t) (h : ClaimOk x s) : ClaimOk x t := by
  induction hm with
  | quiet hq =>
    refine ⟨?_, ?_, ?_, ?_⟩ <;> rw [hq.entries]
    · exact h.single
    · exact h.ordered
    · exact fun e he hne => hq.present e.bay hne (h.present e he hne)
    · exact h.timed
  | check e s => exact h.of_eq
  | abort s => exact h.of_eq
  | list s hl _ => exact hl.claimOk h
  | silent b s => exact removeClaim_silent_claimOk h
  | trans _ _ ih1 ih2 => exact ih2 (ih1 h)

theorem tellCompletion_claimOk (f : TxFrame) (h : ClaimOk x s) : ClaimOk x (tellCompletion x f s) := by
  unfold tellCompletion
  split
  · exact h
  · exact (placed_listed _ _ _ fun hne => absurd rfl hne).claimOk h
  next tag => exact (removeReleased_claimOk x.bay tag h).of_eq

theorem tellDrop_claimOk (f : TxFrame) (h : ClaimOk x s) : ClaimOk x (tellDrop x f s) := by
  unfold tellDrop
  split
  · exact h
  · exact h.of_eq
  next tag => exact (removeReleased_claimOk x.bay tag h).of_eq

theorem finishFrame_claimOk {tell : State → State} (h : ClaimOk x s) (htell : ∀ t, ClaimOk x t → ClaimOk x (tell t)) :
    ClaimOk x (finishFrame x tell s) := by
  unfold finishFrame
  dsimp only
  exact ClaimOk.of_eq (htell { s with link := { s.link with inHand := none, accessTimer := none } } (h.of_eq rfl rfl))

theorem bayConflictFound_claimOk (h : ClaimOk x s) : ClaimOk x (bayConflictFound x s) := by
  unfold bayConflictFound
  extract_lets t l u
  split
  · exact h
  · have hu : ClaimOk x u := h.of_eq (by simp [u, t]) (by simp [u, t])
    exact (removeClaim_claimOk x.bay hu).of_eq

theorem LiveStep.claimOk (hx : LiveStep x s t) (h : ClaimOk x s) : ClaimOk x t := by
  rcases hx.wash_or with hm | hs
  · exact hm.claimOk h
  cases hs
  case cycle => exact h.of_eq
  case completion hh _ _ => exact finishFrame_claimOk (h.of_eq rfl rfl) fun t => tellCompletion_claimOk hh.frame
  case fail now _ =>
    have hn : ClaimOk x { s with clock := now } := h.of_eq rfl rfl
    unfold failAttempt
    split
    · split
      · exact hn.of_eq rfl rfl
      · exact finishFrame_claimOk hn fun t => tellDrop_claimOk _
    · exact hn
  case conflict => exact bayConflictFound_claimOk (h.of_eq rfl rfl)

end

theorem ClaimLaw.step {s t : State} (hs : ClaimLaw s) (h : step s = .next t) : ClaimLaw t := by
  refine step_keeps (P := ClaimLaw) ?_ ?_ ?_ ?_ ?_ hs h
  · exact fun s q h => ⟨h.loads, h.single, h.ordered, h.present, h.timed, h.rest⟩
  · exact fun s c h => ⟨h.loads, h.single, h.ordered, h.present, h.timed, h.rest⟩
  · intro s
    constructor <;> simp [resetStation, ResetLoads, Loader.reset, urgentFirst, regraded]
  · intro x s t hs hx hl
    obtain ⟨h1, h2, h3, h4⟩ := hl.claimOk ⟨hs.single, hs.ordered, hs.present x hx, hs.timed x hx⟩
    have ht := hl.ctx hx
    exact ⟨resetLoads_of_ctx ht, h1, h2, forall_ctx ht h3, forall_ctx ht h4, fun hr => absurd hr (not_atRest_of_ctx ht)⟩
  · refine fun s t hs hx hr => hr.keeps (fun _ h => h.loads) ?_ ?_ ?_ hs hx
    · exact fun s l r h _ => ⟨h.loads, h.single, h.ordered, h.present, h.timed, h.rest⟩
    · intro s r l w h hrest hp hr hc
      have hx : ctx? { s with inReset := r, loader := l, screen := { s.screen with working := w } } = none := ctx?_of_rest hp
      exact ⟨hr, h.single, h.ordered, fun x hc => by simp [hx] at hc, fun x hc => by simp [hx] at hc, fun _ => h.rest hrest⟩
    · intro s x record hs hrest _ hx
      have hnil : (enterListening x (adopt x.cfg (recordTaken record s))).claims.entries = [] := by
        simp [adopt, hs.rest hrest]
      refine ⟨resetLoads_of_ctx hx, ?_, ?_, fun _ _ => ?_, fun _ _ => ?_, fun hr => absurd hr (not_atRest_of_ctx hx)⟩ <;>
        rw [hnil] <;> simp [urgentFirst, regraded]

/-- Settles O57: the list is changed by whole changes alone, each regraded by its order. -/
theorem everyStepKeepsTheClaimLaw : Obligations.EveryStepKeepsTheClaimLaw := by
  intro s t hs h
  have ht := hs.step h
  refine ⟨ht, fun x l => ⟨by simp, fun i e he => ?_, standingIn_eq_none_iff, standingIn_eq_inRange_iff, fun hx i e he hout => ?_⟩⟩
  · rw [regraded_getElem?, he]; rfl
  · rw [ht.timed x hx, regraded_getElem?] at he
    obtain ⟨e', -, rfl⟩ := Option.map_eq_some_iff.1 he
    split at hout
    next hin => rcases hout with hi | hb
                · omega
                · exact absurd hb hin.2
    next hin => rw [if_neg hin]

end Sys2Proof.Machine
end

section
/-! PROOF. The law of the shared header: the statement O59. -/

namespace Sys2Proof.Machine

set_option Elab.async false

/-- What a wash state goes with, by the own standing, the frames of the wash and the tag. -/
def agreesWith (w : WashState) (st : Standing) (fs : List TxFrame) (tag : Nat) : Prop :=
  match w with
  | .idle => st = .none ∧ fs = []
  | .claiming => st = .none ∧ ∃ k d, fs = [.claim tag k d]
  | .waiting => st = .beyondRange ∧ fs = []
  | .washing => st = .inRange ∧ fs = []
  | .yielded => st = .beyondRange ∧ fs = []
  | .releasing => fs = [.release tag] ∨ ∃ k d, st = .none ∧ fs = [.claim tag k d, .release tag]

theorem washAgrees_iff (x : Ctx) (s : State) :
    washAgrees x s ↔ agreesWith s.screen.wash (standingIn x s.claims.entries) (washFrames s) s.screen.tag := by
  unfold washAgrees agreesWith
  cases s.screen.wash <;> exact Iff.rfl

/-- The law of the shared header at work, with what a trigger check relies on: the transmitter is MUTE in a bay conflict alone. -/
structure WashOk (x : Ctx) (s : State) : Prop where
  free    : LinkFree s
  agrees  : agreesWith s.screen.wash (standingIn x s.claims.entries) (washFrames s) s.screen.tag
  mute    : s.link.tx = .mute → s.screen.wash = .idle
  mutedBy : s.link.tx = .mute → s.conds.bayConflict = true
  tag     : ∀ e ∈ ownIn x s.claims.entries, e.tag = s.screen.tag

/-- The part of the law that a change of wash state does not read. -/
structure TagOk (x : Ctx) (s : State) : Prop where
  free    : LinkFree s
  mutedBy : s.link.tx = .mute → s.conds.bayConflict = true
  tag     : ∀ e ∈ ownIn x s.claims.entries, e.tag = s.screen.tag

section
variable {x : Ctx} {s t : State}

theorem WashOk.tagOk (h : WashOk x s) : TagOk x s := ⟨h.free, h.mutedBy, h.tag⟩

theorem FramesKept.not_mute (h : FramesKept s t) (hm : s.link.tx ≠ .mute) : t.link.tx ≠ .mute := fun ht => hm (h.mute.1 ht)

theorem WashOk.quiet (h : WashOk x s) (hq : Quiet x s t) : WashOk x t := by
  obtain ⟨hfree, hfr, hmute⟩ := hq.frames h.free
  refine ⟨hfree, ?_, fun hm => ?_, fun hm => ?_, ?_⟩
  · rw [hq.wash, hq.entries, hfr, hq.tag]; exact h.agrees
  · rw [hq.wash]; exact h.mute (hmute.1 hm)
  · rw [hq.conflict]; exact h.mutedBy (hmute.1 hm)
  · rw [hq.entries, hq.tag]; exact h.tag

theorem WashOk.of_eq (h : WashOk x s) (hw : t.screen.wash = s.screen.wash := by simp) (ht : t.screen.tag = s.screen.tag := by simp)
    (hc : t.claims.entries = s.claims.entries := by simp) (hl : t.link = s.link := by simp)
    (hb : t.conds.bayConflict = s.conds.bayConflict := by simp) : WashOk x t := by
  obtain ⟨hfree, hfr, -⟩ := FramesKept.of_link hl h.free
  refine ⟨hfree, ?_, ?_, ?_, ?_⟩
  · rw [hw, hc, hfr, ht]; exact h.agrees
  · rw [hl, hw]; exact h.mute
  · rw [hl, hb]; exact h.mutedBy
  · rw [hc, ht]; exact h.tag

/-! ### The wash state machine -/

theorem setWash_framesKept (w : WashState) (hf : LinkFree s) : FramesKept s (setWash x w s) := (setWash_told x s w).framesKept hf

theorem setWash_washOk {w : WashState} (h : TagOk x s) (hm : s.link.tx = .mute → w = .idle)
    (ha : agreesWith w (standingIn x s.claims.entries) (washFrames s) s.screen.tag) : WashOk x (setWash x w s) := by
  obtain ⟨hfree, hfr, hmute⟩ := setWash_framesKept (x := x) w h.free
  refine ⟨hfree, ?_, fun ht => ?_, fun ht => ?_, ?_⟩
  · simpa [hfr] using ha
  · simpa using hm (hmute.1 ht)
  · simpa using h.mutedBy (hmute.1 ht)
  · simpa using h.tag

/-- A RELEASE handed over behind what the wash still has to send. -/
theorem releaseClaim_washOk (h : TagOk x s) (hm : s.link.tx ≠ .mute)
    (ha : agreesWith .releasing (standingIn x s.claims.entries) (washFrames s ++ [.release s.screen.tag]) s.screen.tag) :
    WashOk x (releaseClaim x s) := by
  have hfree : LinkFree (stopWashing s) := h.free
  obtain ⟨hf, hfr, hmute⟩ := offer_washFrames (x := x) (f := .release s.screen.tag) hfree hm
  refine setWash_washOk ⟨hf, fun ht => absurd ht hmute, by simpa [stopWashing, stopCycle, sprayOff] using h.tag⟩
    (fun ht => absurd ht hmute) ?_
  simp only [hfr, offer_frame]
  exact ha

theorem WashOk.not_mute (h : WashOk x s) (hw : s.screen.wash ≠ .idle) : s.link.tx ≠ .mute := fun hm => hw (h.mute hm)

/-- A listed claim with nothing to send is released. -/
theorem WashOk.releaseClaim (h : WashOk x s) (hw : s.screen.wash ≠ .idle) (hf : washFrames s = []) :
    WashOk x (releaseClaim x s) :=
  releaseClaim_washOk h.tagOk (h.not_mute hw) (.inl (by simp [hf]))

theorem freshCycle_washOk (h : WashOk x s) : WashOk x (freshCycle x s) := by
  have ht : WashOk x { s with screen := { s.screen with cycleCount := 0 } } := h.of_eq
  unfold freshCycle
  dsimp only
  split
  · exact ht.of_eq
  · exact ht

/-- The wash goes on with a working copy just loaded. -/
theorem reloaded_washOk (h : WashOk x s) (hw : s.screen.wash = .washing) : WashOk x (continueWash x (loadWorking x s)) := by
  have hl : WashOk x (loadWorking x s) := h.of_eq
  have hf : washFrames (loadWorking x s) = [] := by
    have ha := hl.agrees
    rw [show (loadWorking x s).screen.wash = .washing from hw] at ha
    exact ha.2
  unfold continueWash
  split
  · exact hl.releaseClaim (by simp [loadWorking, hw]) hf
  · exact freshCycle_washOk hl

theorem enterWashing_washOk (h : TagOk x s) (hm : s.link.tx ≠ .mute) (hst : standingIn x s.claims.entries = .inRange)
    (hf : washFrames s = []) : WashOk x (enterWashing x s) := by
  have hset : WashOk x (setWash x .washing s) := setWash_washOk h (fun ht => absurd ht hm) ⟨hst, hf⟩
  have hstart : WashOk x (startCycleTimer (setWash x .washing s)) := hset.of_eq rfl rfl rfl rfl rfl
  exact reloaded_washOk hstart (by simp [startCycleTimer])

theorem yieldWash_washOk (h : TagOk x s) (hm : s.link.tx ≠ .mute) (hst : standingIn x s.claims.entries = .beyondRange)
    (hf : washFrames s = []) : WashOk x (yieldWash x s) :=
  setWash_washOk ⟨h.free, h.mutedBy, h.tag⟩ (fun ht => absurd ht hm) ⟨hst, hf⟩

/-! ### A new own standing -/

/-- What a wash state may meet at a change of the list from one own standing to another. -/
def meets (w : WashState) (before after : Standing) (fs : List TxFrame) (tag : Nat) : Prop :=
  match w with
  | .idle => after = .none ∧ fs = []
  | .claiming => (after = .none ∧ ∃ k d, fs = [.claim tag k d]) ∨ (before = .none ∧ after ≠ .none ∧ fs = [])
  | .waiting => before = .beyondRange ∧ after ≠ .none ∧ fs = []
  | .washing => before = .inRange ∧ after ≠ .none ∧ fs = []
  | .yielded => before = .beyondRange ∧ after ≠ .none ∧ fs = []
  | .releasing => agreesWith .releasing after fs tag

theorem handStanding_idle (hw : s.screen.wash = .idle) (st : Standing) : handStanding x st s = s := by
  cases st <;> simp [handStanding, hw]

theorem handStanding_releasing (hw : s.screen.wash = .releasing) (st : Standing) : handStanding x st s = s := by
  cases st <;> simp [handStanding, hw]

theorem handStanding_inRange (hw : s.screen.wash = .claiming ∨ s.screen.wash = .waiting ∨ s.screen.wash = .yielded) :
    handStanding x .inRange s = enterWashing x s := by
  rcases hw with hw | hw | hw <;> simp [handStanding, hw]

theorem handStanding_waits (hw : s.screen.wash = .claiming) : handStanding x .beyondRange s = setWash x .waiting s := by
  simp [handStanding, hw]

theorem handStanding_yields (hw : s.screen.wash = .washing) : handStanding x .beyondRange s = yieldWash x s := by
  simp [handStanding, hw]

theorem handStanding_washOk {before : Standing} (h : TagOk x s) (hm : s.link.tx = .mute → s.screen.wash = .idle)
    (ha : meets s.screen.wash before (standingIn x s.claims.entries) (washFrames s) s.screen.tag) :
    WashOk x (if standingIn x s.claims.entries = before then s else handStanding x (standingIn x s.claims.entries) s) := by
  have hok (hag : agreesWith s.screen.wash (standingIn x s.claims.entries) (washFrames s) s.screen.tag) : WashOk x s :=
    ⟨h.free, hag, hm, h.mutedBy, h.tag⟩
  have hnm (hw : s.screen.wash ≠ .idle) : s.link.tx ≠ .mute := fun ht => hw (hm ht)
  cases hw : s.screen.wash <;> rw [hw] at ha hok hnm
  case idle => rw [handStanding_idle hw, ite_self]; exact hok ha
  case releasing => rw [handStanding_releasing hw, ite_self]; exact hok ha
  case claiming =>
    rcases ha with ⟨hn, hf⟩ | ⟨hb, hst, hf⟩
    · rw [hn, handStanding_none, ite_self]
      exact hok ⟨hn, hf⟩
    · rw [if_neg (hb ▸ hst)]
      cases hs : standingIn x s.claims.entries
      case none => exact absurd hs hst
      case inRange => rw [handStanding_inRange (.inl hw)]; exact enterWashing_washOk h (hnm (by decide)) hs hf
      case beyondRange =>
        rw [handStanding_waits hw]
        exact setWash_washOk h (fun ht => absurd ht (hnm (by decide))) ⟨hs, hf⟩
  case waiting =>
    obtain ⟨rfl, hst, hf⟩ := ha
    cases hs : standingIn x s.claims.entries
    case none => exact absurd hs hst
    case beyondRange => rw [if_pos rfl]; exact hok ⟨hs, hf⟩
    case inRange =>
      rw [if_neg (by decide), handStanding_inRange (.inr (.inl hw))]
      exact enterWashing_washOk h (hnm (by decide)) hs hf
  case yielded =>
    obtain ⟨rfl, hst, hf⟩ := ha
    cases hs : standingIn x s.claims.entries
    case none => exact absurd hs hst
    case beyondRange => rw [if_pos rfl]; exact hok ⟨hs, hf⟩
    case inRange =>
      rw [if_neg (by decide), handStanding_inRange (.inr (.inr hw))]
      exact enterWashing_washOk h (hnm (by decide)) hs hf
  case washing =>
    obtain ⟨rfl, hst, hf⟩ := ha
    cases hs : standingIn x s.claims.entries
    case none => exact absurd hs hst
    case inRange => rw [if_pos rfl]; exact hok ⟨hs, hf⟩
    case beyondRange =>
      rw [if_neg (by decide), handStanding_yields hw]
      exact yieldWash_washOk h (hnm (by decide)) hs hf

theorem standingIn_keys {l m : List Claim} (h : l.map claimKey = m.map claimKey) : standingIn x l = standingIn x m := by
  have hfind (l : List Claim) : l.findIdx? (fun e => e.bay = x.bay) = (l.map claimKey).findIdx? fun k => k.1 = x.bay := by
    rw [List.findIdx?_map]; rfl
  unfold standingIn
  rw [hfind, hfind, h]

@[simp] theorem standingIn_regraded (l : List Claim) : standingIn x (regraded x l) = standingIn x l :=
  standingIn_keys (regraded_keys x l)

theorem ownIn_tags {l : List Claim} {tag : Nat} : (∀ e ∈ ownIn x l, e.tag = tag) ↔ ∀ t ∈ (ownIn x l).map Claim.tag, t = tag := by
  simp

theorem ownIn_regraded_tags (l : List Claim) : (ownIn x (regraded x l)).map Claim.tag = (ownIn x l).map Claim.tag := by
  rw [ownIn_map_tag, ownIn_map_tag, regraded_keys]

theorem changeList_washOk {l : List Claim} (h : TagOk x s) (hm : s.link.tx = .mute → s.screen.wash = .idle)
    (htag : ∀ e ∈ ownIn x l, e.tag = s.screen.tag)
    (ha : meets s.screen.wash (standingIn x s.claims.entries) (standingIn x l) (washFrames s) s.screen.tag) :
    WashOk x (changeList x l s) := by
  have ht : TagOk x { s with claims := { s.claims with entries := regraded x l } } :=
    ⟨h.free, h.mutedBy, by rw [ownIn_tags] at htag ⊢; rw [ownIn_regraded_tags]; exact htag⟩
  have hstep := handStanding_washOk (x := x) (before := standingIn x s.claims.entries) ht hm (by rw [standingIn_regraded]; exact ha)
  unfold changeList
  simpa using hstep

theorem standingIn_none_iff_own {l : List Claim} : standingIn x l = .none ↔ ownIn x l = [] := by
  rw [standingIn_eq_none_iff]
  simp [ownIn]

theorem OwnKept.standing {l : List Claim} (h : OwnKept x s l) : standingIn x l = .none ↔ standingIn x s.claims.entries = .none := by
  unfold OwnKept at h
  rw [standingIn_none_iff_own, standingIn_none_iff_own, ← List.map_eq_nil_iff (f := Claim.tag), h, List.map_eq_nil_iff]

/-- A change of the list that keeps the own claim meets the wash where it stands. -/
theorem OwnKept.meets {l : List Claim} (h : OwnKept x s l)
    (ha : agreesWith s.screen.wash (standingIn x s.claims.entries) (washFrames s) s.screen.tag) :
    meets s.screen.wash (standingIn x s.claims.entries) (standingIn x l) (washFrames s) s.screen.tag := by
  have hst := h.standing
  cases hw : s.screen.wash <;> rw [hw] at ha
  case idle => exact ⟨hst.2 ha.1, ha.2⟩
  case claiming => exact .inl ⟨hst.2 ha.1, ha.2⟩
  case waiting | washing | yielded => exact ⟨ha.1, fun hn => by simp [agreesWith, hst.1 hn] at ha, ha.2⟩
  case releasing =>
    rcases ha with hf | ⟨k, d, hn, hf⟩
    · exact .inl hf
    · exact .inr ⟨k, d, hst.2 hn, hf⟩

theorem OwnKept.washOk {l : List Claim} (ho : OwnKept x s l) (h : WashOk x s) : WashOk x (changeList x l s) := by
  refine changeList_washOk h.tagOk h.mute ?_ (ho.meets h.agrees)
  have htag := h.tag
  rw [ownIn_tags] at htag ⊢
  rw [ho]
  exact htag

/-! ### Aborts and trigger checks -/

theorem claim_waits {fs : List TxFrame} {f : TxFrame} {q : List TxFrame} {tag : Nat} {k : ClaimClass} {d : Nat}
    (h : fs ++ q.filter (· ≠ .status) = [f]) (hf : f = .claim tag k d) (hq : q.any (isClaimOf tag) = true) :
    fs = [] ∧ (q.filter fun f => !isClaimOf tag f).filter (· ≠ .status) = [] := by
  obtain ⟨g, hg, hgc⟩ := List.any_eq_true.1 hq
  have hgs : g ∈ q.filter (· ≠ .status) := by
    refine List.mem_filter.2 ⟨hg, ?_⟩
    cases g <;> simp_all [isClaimOf]
  have hlen := congrArg List.length h
  have hpos := List.length_pos_of_mem hgs
  have hfs : fs = [] := by
    rw [List.length_append, List.length_singleton] at hlen
    exact List.length_eq_zero_iff.1 (by omega)
  refine ⟨hfs, ?_⟩
  rw [hfs, List.nil_append] at h
  rw [List.filter_filter, List.filter_congr (fun f _ => Bool.and_comm _ _), ← List.filter_filter, h, hf]
  simp [isClaimOf]

theorem abortWash_washOk (h : WashOk x s) : WashOk x (abortWash x s) := by
  unfold abortWash
  have ha := h.agrees
  split
  next => exact h
  next => exact h
  next hw =>
    rw [hw] at ha
    obtain ⟨hst, k, d, hf⟩ := ha
    split
    next hq =>
      obtain ⟨hhand, hrest⟩ := claim_waits hf rfl hq
      refine setWash_washOk ⟨fun ht => ?_, h.mutedBy, h.tag⟩ (fun _ => rfl) ⟨hst, ?_⟩
      · obtain ⟨h1, h2⟩ := h.free ht
        exact ⟨h1, by simp [h2]⟩
      · show _ ++ _ = []
        rw [hrest, List.append_nil]
        exact hhand
    next => exact releaseClaim_washOk h.tagOk (h.not_mute (by simp [hw])) (.inr ⟨k, d, hst, by simp [hf]⟩)
  all_goals
    next hw =>
      rw [hw] at ha
      exact h.releaseClaim (by simp [hw]) ha.2

theorem makeClaim_washOk (k : ClaimClass) (h : WashOk x s) (hw : s.screen.wash = .idle) (hb : s.conds.bayConflict = false) :
    WashOk x (makeClaim x k s) := by
  have ha := h.agrees
  rw [hw] at ha
  have hm : s.link.tx ≠ .mute := fun ht => by simp [h.mutedBy ht] at hb
  unfold makeClaim
  extract_lets tag sc t
  have hfree : LinkFree t := h.free
  obtain ⟨hf, hfr, hmute⟩ := offer_washFrames (x := x) (f := .claim tag k (claimDuration (washSetInForce x.cfg s))) hfree hm
  have hown : ownIn x s.claims.entries = [] := standingIn_none_iff_own.1 ha.1
  refine setWash_washOk ⟨hf, fun ht => absurd ht hmute, ?_⟩ (fun ht => absurd ht hmute) ⟨?_, k, claimDuration (washSetInForce x.cfg s), ?_⟩
  · simp [t, hown]
  · simpa [t] using ha.1
  · rw [hfr]
    have hnil : washFrames t = [] := ha.2
    simp [hnil, t]

theorem triggerCheck_washOk (e : TriggerEvent) (h : WashOk x s) : WashOk x (triggerCheck x e s) := by
  unfold triggerCheck
  split
  next hi =>
    split
    next k hk => exact makeClaim_washOk k h (by simp_all) (chosenClass_noConflict hk)
    next => exact h
  next => exact h

theorem WashMoves.washOk (hm : WashMoves x s t) (h : WashOk x s) : WashOk x t := by
  induction hm with
  | quiet hq => exact h.quiet hq
  | check e s => exact triggerCheck_washOk e h
  | abort s => exact abortWash_washOk h
  | list s _ ho => exact ho.washOk h
  | silent b s hb =>
    have hp : WashOk x { s with peers := s.peers.set b { s.peers[b] with presence := .silent } } := h.of_eq rfl rfl rfl rfl rfl
    unfold removeClaim
    split
    · exact OwnKept.washOk (withoutBay_ownKept hb) hp
    · exact hp
  | trans _ _ ih1 ih2 => exact ih2 (ih1 h)

/-! ### The end of a frame of the wash -/

/-- The frame in hand leaves it while its sender is told. -/
def handEmptied (s : State) : State := { s with link := { s.link with inHand := none, accessTimer := none } }

/-- The transmitter, its hand empty, takes the next frame of the wash from the head of its queue. -/
theorem takeNext_washOk (h : WashOk x s) (hn : s.link.inHand = none) :
    WashOk x (takeNext x { s with link := { s.link with tx := .idle } }) := by
  unfold takeNext
  cases hq : s.link.queue with
  | nil =>
    exact ⟨fun _ => ⟨hn, hq⟩, h.agrees, by simp, by simp, h.tag⟩
  | cons f rest =>
    simp only [hq]
    refine ⟨by simp [LinkFree], ?_, by simp, by simp, h.tag⟩
    have hf : washFrames s = [f].filter (· ≠ .status) ++ rest.filter (· ≠ .status) := by
      simp only [washFrames, hn, hq, List.filter_nil, List.nil_append, ← List.filter_append, List.singleton_append]
    have ha := h.agrees
    rw [hf] at ha
    exact ha

/-- The end of a frame keeps the law when its sender, told with the hand empty, restores it. -/
theorem finishFrame_washOk {tell : State → State} (hl : LinkOk s.link s.conds.bayConflict) (hs : s.link.tx ≠ .idle ∧ s.link.tx ≠ .mute)
    (htold : Told x true (handEmptied s) (tell (handEmptied s))) (h : WashOk x (tell (handEmptied s))) :
    WashOk x (finishFrame x tell s) := by
  have hb := htold.busy (l := (handEmptied s).link) hs.1 ⟨rfl, rfl, rfl, hl.status⟩
  exact takeNext_washOk h hb.inHand

/-- A frame in hand stands before those that wait. -/
theorem washFrames_inHand {i : InHand} (h : s.link.inHand = some i) :
    washFrames s = [i.frame].filter (· ≠ .status) ++ washFrames (handEmptied s) := by
  simp only [washFrames, h, handEmptied, List.filter_nil, List.nil_append]

/-- The law but for the frame in hand, which has left it. -/
theorem WashOk.emptied (h : WashOk x s) (hs : s.link.tx ≠ .idle ∧ s.link.tx ≠ .mute) : TagOk x (handEmptied s) :=
  ⟨fun ht => absurd ht hs.1, fun ht => absurd ht hs.2, h.tag⟩

/-- A CLAIM in hand is that of a CLAIMING wash, or stands before its RELEASE. -/
theorem claim_inHand {i : InHand} {tag : Nat} {k : ClaimClass} {d : Nat} (h : WashOk x s) (hi : s.link.inHand = some i)
    (hf : i.frame = .claim tag k d) : tag = s.screen.tag ∧ standingIn x s.claims.entries = .none ∧
      ((s.screen.wash = .claiming ∧ washFrames (handEmptied s) = []) ∨
       (s.screen.wash = .releasing ∧ washFrames (handEmptied s) = [.release s.screen.tag])) := by
  have ha := h.agrees
  rw [washFrames_inHand hi, hf] at ha
  cases hw : s.screen.wash <;> rw [hw] at ha <;> simp [agreesWith] at ha
  case claiming => exact ⟨ha.2.1, ha.1, .inl ⟨rfl, ha.2.2⟩⟩
  case releasing => exact ⟨ha.2.1, ha.1, .inr ⟨rfl, ha.2.2⟩⟩

/-- A RELEASE in hand is the last frame of a RELEASING wash. -/
theorem release_inHand {i : InHand} {tag : Nat} (h : WashOk x s) (hi : s.link.inHand = some i) (hf : i.frame = .release tag) :
    tag = s.screen.tag ∧ s.screen.wash = .releasing ∧ washFrames (handEmptied s) = [] := by
  have ha := h.agrees
  rw [washFrames_inHand hi, hf] at ha
  cases hw : s.screen.wash <;> rw [hw] at ha <;> simp [agreesWith] at ha
  exact ⟨ha.1, rfl, ha.2⟩

/-- A STATUS in hand is none of the wash. -/
theorem status_inHand {i : InHand} (h : WashOk x s) (hs : s.link.tx ≠ .idle ∧ s.link.tx ≠ .mute) (hi : s.link.inHand = some i)
    (hf : i.frame = .status) : WashOk x (handEmptied s) := by
  have ha := h.agrees
  rw [washFrames_inHand hi, hf] at ha
  obtain ⟨h1, h2, h3⟩ := h.emptied hs
  exact ⟨h1, ha, fun ht => absurd ht hs.2, h2, h3⟩

/-- The own claim listed stands alone under its tag. -/
theorem ownIn_placed_own (tag : Nat) (k : ClaimClass) (d : Nat) (l : List Claim) :
    ownIn x (placed ⟨x.bay, tag, k, d, 0⟩ (withoutBay x.bay l)) = [⟨x.bay, tag, k, d, 0⟩] := by
  have hnil (m : List Claim) (hm : m.Sublist (withoutBay x.bay l)) : m.filter (fun e => decide (e.bay = x.bay)) = [] := by
    refine List.filter_eq_nil_iff.2 fun e he => ?_
    have := hm.subset he
    simpa [withoutBay] using (List.mem_filter.1 this).2
  unfold placed ownIn
  split
  · rw [List.filter_append, hnil _ (List.rdropWhile_prefix isRoutine _).sublist, List.filter_cons,
      hnil _ (List.rtakeWhile_suffix isRoutine _).sublist]
    simp
  · rw [List.filter_append, hnil _ (.refl _)]
    simp

/-- The completion of the own CLAIM lists it, and a CLAIMING wash goes on by its standing (R76, R95). -/
theorem ownClaim_washOk {i : InHand} {tag : Nat} {k : ClaimClass} {d : Nat} (h : WashOk x s)
    (hs : s.link.tx ≠ .idle ∧ s.link.tx ≠ .mute) (hi : s.link.inHand = some i) (hf : i.frame = .claim tag k d) :
    WashOk x (insertClaim x x.bay tag k d (handEmptied s)) := by
  obtain ⟨htag, hst, hw⟩ := claim_inHand h hi hf
  have hown := ownIn_placed_own (x := x) tag k d s.claims.entries
  have hsome : standingIn x (placed ⟨x.bay, tag, k, d, 0⟩ (withoutBay x.bay s.claims.entries)) ≠ .none := by
    rw [Ne, standingIn_none_iff_own, hown]; simp
  refine changeList_washOk (h.emptied hs) (fun ht => absurd ht hs.2) ?_ ?_
  · intro e he
    rw [show (handEmptied s).claims.entries = s.claims.entries from rfl, hown, List.mem_singleton] at he
    rw [he]
    exact htag
  · rcases hw with ⟨hw, hfr⟩ | ⟨hw, hfr⟩
    · rw [show (handEmptied s).screen.wash = .claiming from hw]
      exact .inr ⟨hst, hsome, hfr⟩
    · rw [show (handEmptied s).screen.wash = .releasing from hw]
      exact .inl hfr

/-- The drop of the own CLAIM ends a CLAIMING wash (R95). -/
theorem claimDropped_washOk {i : InHand} {tag : Nat} {k : ClaimClass} {d : Nat} (h : WashOk x s)
    (hs : s.link.tx ≠ .idle ∧ s.link.tx ≠ .mute) (hi : s.link.inHand = some i) (hf : i.frame = .claim tag k d) :
    WashOk x (claimDropped x (handEmptied s)) := by
  obtain ⟨-, hst, hw⟩ := claim_inHand h hi hf
  obtain ⟨h1, h2, h3⟩ := h.emptied hs
  unfold claimDropped
  rcases hw with ⟨hw, hfr⟩ | ⟨hw, hfr⟩
  · rw [if_pos (show (handEmptied s).screen.wash = .claiming from hw)]
    exact setWash_washOk ⟨h1, h2, h3⟩ (fun _ => rfl) ⟨hst, hfr⟩
  · rw [if_neg (by simp [handEmptied, hw])]
    refine ⟨h1, ?_, fun ht => absurd ht hs.2, h2, h3⟩
    rw [show (handEmptied s).screen.wash = .releasing from hw]
    exact .inl hfr

/-- A RELEASE of the tag of every own entry leaves none. -/
theorem removeReleased_own {tag : Nat} (h : ∀ e ∈ ownIn x s.claims.entries, e.tag = tag) : ∃ l, (∀ e ∈ l, e.bay ≠ x.bay) ∧
    removeReleased x x.bay tag s = { s with claims := { s.claims with entries := l } } := by
  unfold removeReleased
  split
  next => exact removeClaim_own
  next hno =>
    refine ⟨s.claims.entries, fun e he hb => ?_, rfl⟩
    have hne : e.bay = x.bay → e.tag ≠ tag := by
      have := hno
      simp only [holdsClaim, List.any_eq_true, Bool.and_eq_true, decide_eq_true_eq, not_exists, not_and] at this
      exact this e he
    exact hne hb (h e (by simp [ownIn, he, hb]))

/-- The end of the own RELEASE, sent or dropped, takes the own entry away and ends the wash (R78, R97). -/
theorem ownRelease_washOk {i : InHand} {tag : Nat} (h : WashOk x s) (hs : s.link.tx ≠ .idle ∧ s.link.tx ≠ .mute)
    (hi : s.link.inHand = some i) (hf : i.frame = .release tag) : WashOk x (washEnd x (removeReleased x x.bay tag (handEmptied s))) := by
  obtain ⟨rfl, hw, hfr⟩ := release_inHand h hi hf
  obtain ⟨h1, h2, h3⟩ := h.emptied hs
  obtain ⟨l, hl, hrem⟩ := removeReleased_own (x := x) (s := handEmptied s) h3
  have hown : ownIn x l = [] := by rw [← standingIn_none_iff_own, standingIn_eq_none_iff]; exact hl
  rw [show s.screen.tag = (handEmptied s).screen.tag from rfl, hrem]
  unfold washEnd
  rw [if_pos (by exact hw)]
  refine setWash_washOk ⟨h1, h2, ?_⟩ (fun _ => rfl) ⟨standingIn_eq_none_iff.2 hl, hfr⟩
  intro e he
  rw [show ({ handEmptied s with claims := { (handEmptied s).claims with entries := l } } : State).claims.entries = l from rfl] at he
  simp [hown] at he

theorem tellCompletion_washOk {i : InHand} (h : WashOk x s) (hs : s.link.tx ≠ .idle ∧ s.link.tx ≠ .mute)
    (hi : s.link.inHand = some i) : WashOk x (tellCompletion x i.frame (handEmptied s)) := by
  unfold tellCompletion
  split
  next hf => exact status_inHand h hs hi hf
  next hf => exact ownClaim_washOk h hs hi hf
  next hf => exact ownRelease_washOk h hs hi hf

theorem tellDrop_washOk {i : InHand} (h : WashOk x s) (hs : s.link.tx ≠ .idle ∧ s.link.tx ≠ .mute)
    (hi : s.link.inHand = some i) : WashOk x (tellDrop x i.frame (handEmptied s)) := by
  unfold tellDrop
  split
  next hf => exact status_inHand h hs hi hf
  next hf => exact claimDropped_washOk h hs hi hf
  next hf => exact ownRelease_washOk h hs hi hf

theorem failAttempt_washOk (hl : LinkOk s.link s.conds.bayConflict) (ht : s.link.tx = .defer ∨ s.link.tx = .backoff)
    (h : WashOk x s) : WashOk x (failAttempt x s) := by
  have hs : s.link.tx ≠ .idle ∧ s.link.tx ≠ .mute := by rcases ht with ht | ht <;> simp [ht]
  unfold failAttempt
  split
  next i hi =>
    split
    · exact h.quiet (.of_frames (fun _ => .of_parts (by simp [hi]) rfl (by simp [hs.2]) (by simp [LinkFree])) rfl rfl rfl rfl rfl)
    · exact finishFrame_washOk hl hs (tellDrop_told x _ _) (tellDrop_washOk h hs hi)
  next => exact h

/-! ### The cycle and a bay conflict -/

theorem cycleStep_washOk (h : WashOk x s) (hw : s.screen.wash = .washing) : WashOk x (cycleStep x s) := by
  unfold cycleStep
  extract_lets c t u
  have ht : WashOk x t := h.of_eq rfl rfl rfl rfl rfl
  have hu : WashOk x u ∧ u.screen.wash = .washing := by
    simp only [u]
    split
    · exact ⟨ht.of_eq, by simpa [t, c] using hw⟩
    · exact ⟨ht, hw⟩
  split
  · exact reloaded_washOk (hu.1.of_eq rfl rfl rfl rfl rfl) hu.2
  · exact hu.1

theorem bayConflictFound_washOk (h : WashOk x s) : WashOk x (bayConflictFound x s) := by
  unfold bayConflictFound
  extract_lets t l u
  split
  · exact h
  · obtain ⟨es, hes, hrem⟩ := removeClaim_own (x := x) (s := u)
    have hown : ownIn x es = [] := by rw [← standingIn_none_iff_own, standingIn_eq_none_iff]; exact hes
    have hstop : TagOk x (stopWashing { u with claims := { u.claims with entries := es } }) := by
      refine ⟨by simp [LinkFree, stopWashing, stopCycle, sprayOff, u], fun _ => ?_, fun e he => ?_⟩
      · simp [stopWashing, stopCycle, sprayOff, u, t, Conds.set]
      · rw [show (stopWashing { u with claims := { u.claims with entries := es } }).claims.entries = es from rfl, hown] at he
        cases he
    have hset : WashOk x (setWash x .idle (stopWashing { u with claims := { u.claims with entries := es } })) :=
      setWash_washOk hstop (fun _ => rfl) ⟨standingIn_eq_none_iff.2 hes, rfl⟩
    rw [hrem]
    unfold conflictAtScreen
    exact (hset.of_eq).quiet (.of_pump (conflictAtPump_told x _) (conflictAtPump_pumpOnly x _))

theorem LiveStep.washOk (hx : LiveStep x s t) (hl : LinkOk s.link s.conds.bayConflict) (hsc : ScreenOk s) (h : WashOk x s) :
    WashOk x t := by
  rcases hx.wash_or with hm | hs
  · exact hm.washOk h
  cases hs
  case cycle now d e hc =>
    have hw : s.screen.wash = .washing := hsc.cycleTimer (by simp [hc])
    exact cycleStep_washOk (h.of_eq rfl rfl rfl rfl rfl) hw
  case completion i ht hi =>
    have hq : WashOk x { s with link := { s.link with receiver := .waitIdle } } :=
      h.quiet (.of_screen (.quiet rfl rfl rfl rfl rfl rfl) rfl rfl rfl rfl)
    have hlq : LinkOk { s.link with receiver := .waitIdle } s.conds.bayConflict := hl.of_eq rfl rfl rfl rfl
    have hs : s.link.tx ≠ .idle ∧ s.link.tx ≠ .mute := by simp [ht]
    exact finishFrame_washOk hlq hs (tellCompletion_told x _ _) (tellCompletion_washOk hq hs hi)
  case fail now ht => exact failAttempt_washOk hl ht (h.of_eq rfl rfl rfl rfl rfl)
  case conflict => exact bayConflictFound_washOk (h.quiet (.of_screen (.quiet rfl rfl rfl rfl rfl rfl) rfl rfl rfl rfl))

/-! ### Every step -/

theorem WashLaw.ok (h : WashLaw s) (hl : LinkLaw s) (hx : ctx? s = some x) : WashOk x s where
  free ht := ⟨Option.not_isSome_iff_eq_none.1 fun hi => by simpa [ht] using hl.inHand.1 hi, hl.empty (.inl ht)⟩
  agrees := (washAgrees_iff x s).1 (h.agrees x hx)
  mute := h.mute
  mutedBy := hl.mute (by simp [hx])
  tag := h.tag x hx

theorem WashLaw.of_ok (hx : ctx? s = some x) (h : WashOk x s) : WashLaw s :=
  ⟨resetLoads_of_ctx hx, forall_ctx hx ((washAgrees_iff x s).2 h.agrees), h.mute, forall_ctx hx h.tag,
    fun hr => absurd hr (not_atRest_of_ctx hx)⟩

/-- At rest nothing waits and the transmitter is MUTE. -/
def QuietRest (s : State) : Prop := atRest s → s.link.tx = .mute ∧ s.link.queue = []

theorem RestStep.washLaw (hr : RestStep s t) (hx : ctx? s = none) (hq : QuietRest s) (h : WashLaw s) : WashLaw t := by
  refine (hr.keeps (P := fun s => WashLaw s ∧ QuietRest s) (fun _ h => h.1.loads) ?_ ?_ ?_ ⟨h, hq⟩ hx).1
  · exact fun s l r h _ => ⟨⟨h.1.loads, h.1.agrees, h.1.mute, h.1.tag, h.1.rest⟩, h.2⟩
  · intro s r l w ⟨h, hq⟩ hrest hp hr _
    have hx : ctx? { s with inReset := r, loader := l, screen := { s.screen with working := w } } = none := ctx?_of_rest hp
    exact ⟨⟨hr, fun x hc => by simp [hx] at hc, h.mute, fun x hc => by simp [hx] at hc, fun _ => h.rest hrest⟩, fun _ => hq hrest⟩
  · intro s x record ⟨h, hq⟩ hrest _ hx
    obtain ⟨hm, hqueue⟩ := hq hrest
    obtain ⟨hw, hc, -⟩ := h.rest hrest
    have hlink := enterListening_link (x := x) (s := adopt x.cfg (recordTaken record s)) (by simpa [adopt] using hm)
      (by simpa [adopt] using hqueue)
    have hwash : (enterListening x (adopt x.cfg (recordTaken record s))).screen.wash = .idle := by simpa [adopt] using hw
    have hentries : (enterListening x (adopt x.cfg (recordTaken record s))).claims.entries = [] := by simpa [adopt] using hc
    refine ⟨.of_ok hx ⟨?_, ?_, ?_, ?_, ?_⟩, fun hr => absurd hr (not_atRest_of_ctx hx)⟩
    · simp [LinkFree, hlink]
    · rw [hwash, hentries]
      exact ⟨rfl, by simp [washFrames, hlink]⟩
    · simp [hlink]
    · simp [hlink]
    · rw [hentries]; simp [ownIn]

theorem WashLaw.step (hs : WashLaw s) (hl : LinkLaw s) (hsc : ScreenLaw s) (h : step s = .next t) : WashLaw t := by
  obtain rfl | ⟨q, rfl | ⟨x, hx, hlive⟩ | ⟨hx, hr⟩⟩ := step_cases h
  · unfold tick
    split
    · exact hs
    · exact ⟨hs.loads, hs.agrees, hs.mute, hs.tag, hs.rest⟩
  · constructor <;> simp [resetStation, ResetLoads, Loader.reset, Link.reset, Screen.reset, ctx?, washFrames]
  · have hok : WashOk x { s with pending := q } := WashOk.of_eq (hs.ok hl hx) rfl rfl rfl rfl rfl
    exact .of_ok (hlive.ctx hx) (hlive.washOk (hl.ok hx) (hsc.ok.of_eq rfl rfl rfl) hok)
  · refine hr.washLaw hx (fun hrest => ?_) ⟨hs.loads, hs.agrees, hs.mute, hs.tag, hs.rest⟩
    have hm := (hl.rest hrest).1
    exact ⟨hm, hl.empty (.inr hm)⟩

end

/-- Settles O59: a wash holds its own claim in range, from the grant to the end of its RELEASE. -/
theorem everyStepKeepsTheWashLaw : Obligations.EveryStepKeepsTheWashLaw := by
  intro s t hl hsc hs h
  have ht := hs.step hl hsc h
  refine ⟨ht, fun x hx hw => ?_⟩
  have ha := ht.agrees x hx
  rw [washAgrees_iff, hw] at ha
  obtain ⟨i, e, hi, he, hb⟩ := standingIn_eq_inRange_iff.1 ha.1
  exact ⟨i, e, hi, he, hb, ht.tag x hx e (by simp [ownClaims, List.mem_of_getElem? he, hb])⟩

end Sys2Proof.Machine
end

section
/-! PROOF. The phases: the statement O60. -/

namespace Sys2Proof.Machine

set_option Elab.async false

/-! ### The run-minute count -/

/-- A minute more, up to the bound of three bytes (R143). -/
theorem addMinute_runMinutes (s : State) :
    (addMinute s).pump.runMinutes = min (s.pump.runMinutes + 1) (max s.pump.runMinutes 16777215) := by
  unfold addMinute
  dsimp only
  split
  next h =>
    have hmin : s.pump.runMinutes + 1 = min (s.pump.runMinutes + 1) (max s.pump.runMinutes 16777215) := by omega
    split
    · simpa using hmin
    · exact hmin
  next h => omega

theorem addMinute_runMinutes_le (s : State) : s.pump.runMinutes ≤ (addMinute s).pump.runMinutes := by
  rw [addMinute_runMinutes]
  omega

theorem stopMinutes_runMinutes_le (s : State) : s.pump.runMinutes ≤ (stopMinutes s).pump.runMinutes := by
  unfold stopMinutes
  split
  · dsimp only
    split
    · refine le_trans ?_ (addMinute_runMinutes_le _)
      exact Nat.le_refl _
    · exact Nat.le_refl _
  · exact Nat.le_refl _

theorem noteCounted_runMinutes_le (x : Ctx) (was : Bool) (s : State) : s.pump.runMinutes ≤ (noteCounted x was s).pump.runMinutes := by
  unfold noteCounted countedChanged
  dsimp only
  split_ifs
  · exact Nat.le_refl _
  · exact Nat.le_refl _
  · simpa using stopMinutes_runMinutes_le { s with fouling := { s.fouling with
      runningMark := countedRunning s, settleTimer := ahead s (x.cfg.settleTime * 1000) } }

theorem setPump_runMinutes_le (x : Ctx) (p : PumpState) (s : State) : s.pump.runMinutes ≤ (setPump x p s).pump.runMinutes := by
  unfold setPump
  split
  · exact Nat.le_refl _
  · simpa using noteCounted_runMinutes_le x (countedRunning s) (offerStatus x { s with pump := { s.pump with state := p } })

/-- In OPERATING the count does not fall, and the phase stays. -/
def MinutesGrow (s t : State) : Prop :=
  s.loader.phase = .operating → t.loader.phase = .operating ∧ s.pump.runMinutes ≤ t.pump.runMinutes

theorem MinutesGrow.trans {s t u : State} (h : MinutesGrow s t) (k : MinutesGrow t u) : MinutesGrow s u := fun hp => by
  obtain ⟨h1, h2⟩ := h hp
  obtain ⟨k1, k2⟩ := k h1
  exact ⟨k1, h2.trans k2⟩

theorem MinutesGrow.of_eq {s t : State} (hp : t.loader.phase = s.loader.phase := by simp)
    (hm : t.pump.runMinutes = s.pump.runMinutes := by simp) : MinutesGrow s t := fun h => ⟨hp ▸ h, by rw [hm]⟩

/-- A change of pump state adds at most a minute of the running it ends. -/
theorem MinutesGrow.setPump {x : Ctx} {p : PumpState} {s t : State} (hp : t.loader.phase = s.loader.phase := by simp)
    (hm : t.pump.runMinutes = s.pump.runMinutes := by simp) : MinutesGrow s (setPump x p t) := fun h => by
  refine ⟨by simp [hp, h], ?_⟩
  rw [← hm]
  exact setPump_runMinutes_le x p t

theorem PumpMoves.minutes {x : Ctx} {s t : State} (h : PumpMoves x s t) : MinutesGrow s t := by
  induction h with
  | quiet hp _ _ _ _ ho => exact fun h => ⟨ho h, by rw [hp]⟩
  | hours n s hn => exact fun h => absurd h hn
  | cause | cut => exact .of_eq rfl rfl
  | stopped | stopping | failed | tripped | locked | withdrawn | pending | running | takenOver => exact .setPump rfl rfl
  | trans _ _ ih1 ih2 => exact ih1.trans ih2

theorem LiveStep.minutes {x : Ctx} {s t : State} (hx : LiveStep x s t) : MinutesGrow s t := by
  rcases hx.moves_or with h | h
  · exact h.minutes
  cases h
  case guardStops | minRun | minStop => exact .of_eq rfl rfl
  case ringAge => exact .of_eq (by simp) (by rw [dropOldestStart_pump])
  case startTimeout now =>
    have hf : MinutesGrow s (enterFailed x { s with clock := now }) := .setPump rfl rfl
    exact hf.trans (.of_eq rfl rfl)
  case started now h =>
    refine .trans ?_ (PumpMoves.minutes (protectOnEntry_moves x _ (by simp)))
    exact .setPump rfl rfl
  case minute now d e _ =>
    refine fun hp => ⟨by simpa using hp, ?_⟩
    exact addMinute_runMinutes_le { s with clock := now, pump := { s.pump with minuteTimer := some e, minuteAcc := 0 } }
  case run v hm =>
    refine .trans (fun hp => ⟨?_, ?_⟩) hm.minutes
    · simpa using hp
    · exact noteCounted_runMinutes_le x (countedRunning s) { s with lines := { s.lines with run := v } }

/-! ### The phases -/

/-- What a step of the table of phases does, in a station whose reset holds in LOADING alone. -/
structure PhaseMoves (s t : State) : Prop where
  phase   : t.loader.phase = s.loader.phase ∨ t = { State.reset with pending := t.pending, lines := t.lines, choices := t.choices } ∨
    (s.loader.phase = .loading ∧ (t.loader.phase = .listening ∨ t.loader.phase = .halted)) ∨
    (s.loader.phase = .listening ∧ t.loader.phase = .operating)
  halted  : s.loader.phase = .halted → t.loader.phase = .halted → outputs t = outputs s
  reset   : s.inReset = false → t.inReset = true → t = { State.reset with pending := t.pending, lines := t.lines, choices := t.choices }
  kept    : t.inReset = false → s.inReset = false → t.loader.bay = s.loader.bay ∧
    (s.loader.phase ≠ .loading → t.loader.cfg = s.loader.cfg)
  minutes : s.inReset = false → t.inReset = false → s.loader.phase = .operating → s.pump.runMinutes ≤ t.pump.runMinutes

/-- A step that leaves the reset, the loader's phase, bay and settings, and the outputs of HALTED. -/
theorem PhaseMoves.same {s t : State} (hr : t.inReset = s.inReset) (hl : t.loader = s.loader) (ho : outputs t = outputs s)
    (hm : t.pump.runMinutes = s.pump.runMinutes) : PhaseMoves s t where
  phase := .inl (by rw [hl])
  halted _ _ := ho
  reset h1 h2 := by rw [hr, h1] at h2; cases h2
  kept _ _ := ⟨by rw [hl], fun _ => by rw [hl]⟩
  minutes _ _ _ := by rw [hm]

theorem resetStation_phaseMoves (s : State) : PhaseMoves s (resetStation s) where
  phase := .inr (.inl rfl)
  halted _ h := by cases h
  reset _ _ := rfl
  kept h := by cases h
  minutes _ h := by cases h

theorem LiveStep.phaseMoves {x : Ctx} {s t : State} (hx : ctx? s = some x) (h : LiveStep x s t) : PhaseMoves s t := by
  obtain ⟨hr, hb, hc, hp⟩ := h.base
  have hlive := not_atRest_of_ctx hx
  refine ⟨?_, fun hh => absurd (.inr hh) hlive, fun h1 h2 => ?_, fun _ _ => ⟨hb, fun _ => hc⟩,
    fun _ _ ho => (h.minutes ho).2⟩
  · exact hp.elim .inl fun h => .inr (.inr (.inr h))
  · rw [hr, h1] at h2
    cases h2

/-- A step out of LOADING goes on in LOADING, to LISTENING or to HALTED. -/
theorem PhaseMoves.of_loading {s t : State} (hs : s.loader.phase = .loading)
    (ht : t.loader.phase = .loading ∨ t.loader.phase = .listening ∨ t.loader.phase = .halted)
    (hr : s.inReset = false → t.inReset = false ∧ t.loader.bay = s.loader.bay) : PhaseMoves s t where
  phase := ht.elim (fun h => .inl (h.trans hs.symm)) fun h => .inr (.inr (.inl ⟨hs, h⟩))
  halted h := by simp [hs] at h
  reset h1 h2 := by rw [(hr h1).1] at h2; cases h2
  kept _ h := ⟨(hr h).2, fun hn => absurd hs hn⟩
  minutes _ _ h := by simp [hs] at h

theorem RestStep.phaseMoves {s t : State} (hl : ResetLoads s) (h : RestStep s t) : PhaseMoves s t := by
  cases h with
  | idle l r => exact .same rfl rfl rfl rfl
  | straps b hr => exact .of_loading (hl hr) (.inl rfl) fun h => by rw [hr] at h; cases h
  | badStraps hr => exact .of_loading (hl hr) (.inr (.inr rfl)) fun h => by rw [hr] at h; cases h
  | image c hr hp _ => exact .of_loading hp (.inl hp) fun _ => ⟨hr, rfl⟩
  | badImage hr hp => exact .of_loading hp (.inr (.inr rfl)) fun _ => ⟨hr, rfl⟩
  | listening x record hr hp hb hc =>
    exact .of_loading hp (.inr (.inl (by simp))) fun _ => ⟨by simpa [adopt] using hr, by simp [adopt]⟩

theorem step_phaseMoves {s t : State} (hl : ResetLoads s) (h : step s = .next t) : PhaseMoves s t := by
  obtain rfl | ⟨q, rfl | ⟨x, hx, hlive⟩ | ⟨hx, hr⟩⟩ := step_cases h
  · unfold tick
    split <;> exact .same rfl rfl rfl rfl
  all_goals suffices hq : PhaseMoves { s with pending := q } _ from ⟨hq.phase, hq.halted, hq.reset, hq.kept, hq.minutes⟩
  · exact resetStation_phaseMoves _
  · exact hlive.phaseMoves hx
  · exact hr.phaseMoves hl

/-- Settles O60: a live step leaves what the loader has read, and the steps of LOADING and HALTED are a few. -/
theorem phasesMoveInOrder : Obligations.PhasesMoveInOrder := by
  intro s t hl h
  obtain ⟨phase, halted, reset, kept, minutes⟩ := step_phaseMoves hl h
  exact ⟨phase, halted, by simp [outputs], reset, kept, minutes⟩

end Sys2Proof.Machine
end

section
/-! PROOF. The step and the queue, the reset state, and start-up: the statements O1 to O8 and O50. -/

namespace Sys2Proof.Machine

set_option Elab.async false

/-! ### The step and the queue -/

/-- Settles O1. -/
theorem stepRunsTheFrontCommand : Obligations.StepRunsTheFrontCommand := fun _ _ => rfl

/-- Settles O2. -/
theorem emptyQueueTicksTheClock : Obligations.EmptyQueueTicksTheClock := by
  intro s h
  have htick : step s = .next (tick s) := by unfold step; rw [h]
  exact htick

/-- The window of LISTENING and its end leave these. -/
@[simp] theorem countWindow_kept (x : Ctx) (s : State) :
    (countWindow x s).pending = s.pending ∧ (countWindow x s).choices = s.choices ∧ (countWindow x s).clock = s.clock ∧
    (countWindow x s).lines = s.lines ∧ (countWindow x s).front = s.front ∧ (countWindow x s).ageingTimer = s.ageingTimer ∧
    (countWindow x s).tide = s.tide ∧ (countWindow x s).duty = s.duty := by
  unfold countWindow endListening
  dsimp only
  split_ifs <;> simp [enterOperating, adoptHours]

theorem LiveStep.pending {x : Ctx} {s t : State} (h : LiveStep x s t) : t.pending = s.pending := by
  cases h
  case ageing => unfold ageingStep; simp
  all_goals simp

theorem RestStep.pending {s t : State} (h : RestStep s t) : t.pending = s.pending := by
  cases h with
  | listening => simp [adopt]
  | idle | straps | badStraps | image | badImage => rfl

/-- Settles O3: a command is a RESET or a step at work or at rest, and none of them reads the queue. -/
theorem everyCommandLeavesTheQueue : Obligations.EveryCommandLeavesTheQueue := by
  intro c s
  obtain ⟨t, ht⟩ : ∃ t, exec c s = .next t := by cases c <;> exact ⟨_, rfl⟩
  refine ⟨t, ht, ?_⟩
  by_cases hc : c = .reset
  · subst hc
    obtain rfl := Host.Outcome.next.inj ht
    rfl
  · cases hx : ctx? s with
    | none => exact (rest_of_exec hx hc ht).pending
    | some x => exact (live_of_exec hx hc ht).pending

/-! ### The reset state -/

/-- Settles O4. -/
theorem everyBlockAtItsResetValues : Obligations.EveryBlockAtItsResetValues := by
  have hentries (b : Bay) : State.reset.peers[b] = ⟨.empty, 0, Report.reset⟩ := Vector.getElem_replicate _
  have hlanes (b : Bay) : State.reset.fouling.lanes[b] = { index := 0, stale := true, present := false, invalidated := true } :=
    Vector.getElem_replicate _
  have halarms (a : Alarm) : alarmState State.reset a = .normal := Vector.getElem_replicate _
  refine ⟨rfl, rfl, by decide, rfl, fun b => by simp [hentries], rfl, rfl, rfl, ?_, ⟨rfl, rfl, rfl, rfl, hlanes, rfl, rfl, rfl⟩, rfl, ?_,
    rfl, ?_, fun a => ⟨by simp, halarms a⟩, rfl, ?_⟩
  all_goals repeat' constructor

/-- Settles O5. -/
theorem resetRestoresEveryBlock : Obligations.ResetRestoresEveryBlock := fun _ => rfl

/-- Settles O50. -/
theorem everyLawHoldsAtReset : Obligations.EveryLawHoldsAtReset := by
  refine ⟨?_, ?_, ?_, ?_, ?_, ?_, ?_, ?_, ?_⟩
  · constructor <;> simp [ResetLoads, Loader.reset, Screen.reset, Conds.reset, driveChoice]
  · constructor <;> simp [ResetLoads, Loader.reset, Pump.reset, Conds.reset]
  · constructor <;> simp [ResetLoads, Loader.reset, Pump.reset, ctx?]
  · constructor <;> simp [ResetLoads, Loader.reset, Pump.reset, ctx?, startsInLastHour]
  · constructor <;> simp [ResetLoads, Loader.reset, ctx?]
  · constructor <;> simp [ResetLoads, Loader.reset, Conds.reset, ctx?]
  · constructor <;> simp [ResetLoads, Loader.reset, urgentFirst, ctx?]
  · constructor <;> simp [ResetLoads, Loader.reset, Link.reset, Conds.reset, ctx?]
  · constructor <;> simp [ResetLoads, Loader.reset, Link.reset, Screen.reset, ctx?, washFrames]

/-! ### The straps -/

/-- In HALTED, entered with the drive off, no pulse and a MUTE transmitter, every output is off but ALARM. -/
theorem outputs_halted {s : State} (hd : s.screen.drive = .off) (hsp : s.screen.spray = false) (hp : s.pump.pulse = none)
    (hl : s.link.tx = .mute) (hh : s.loader.phase = .halted) (hspi : s.loader.spi = none) : outputs s = haltedOutputs := by
  simp [outputs, haltedOutputs, alarmOutput, hd, hsp, hp, hl, hh, hspi]

/-- A station at rest that keeps its laws has every output off but ALARM once it halts. -/
theorem outputs_enterHalted {s : State} {r : Bool} (h : atRest s) (hsc : ScreenLaw s) (hp : PumpLaw s) (hl : LinkLaw s) :
    outputs { s with inReset := r, loader := { s.loader with phase := .halted, spi := none } } = haltedOutputs := by
  refine outputs_halted (hsc.drive.trans (driveChoice_rest h)) (Bool.eq_false_iff.2 fun hsp => ?_) (hp.rest h).2 (hl.rest h).1 rfl rfl
  have hw := hsc.spray hsp
  rw [hsc.rest h] at hw
  cases hw

theorem bayOfStraps_of_bay {straps : BitVec 4} {b : Bay} (h : straps.toNat = bayNumber b) : bayOfStraps straps = some b := by
  unfold bayNumber at h
  rw [bayOfStraps, dif_pos (by omega)]
  exact congrArg some (Fin.ext (by simp; omega))

theorem bayOfStraps_of_refused {straps : BitVec 4} (h : straps.toNat = 0 ∨ 13 ≤ straps.toNat) : bayOfStraps straps = none :=
  dif_neg (by omega)

/-- Settles O6. -/
theorem resetEndReadsTheStraps : Obligations.ResetEndReadsTheStraps := by
  intro s straps hr
  refine ⟨fun b hb => ?_, fun hrefused => ⟨?_, fun hsc hp hl => outputs_enterHalted (.inl (hsc.loads hr)) hsc hp hl⟩⟩
  · simp only [exec, execResetEnd, hr, if_true, bayOfStraps_of_bay hb]
    rfl
  · simp only [exec, execResetEnd, hr, if_true, bayOfStraps_of_refused hrefused]
    rfl

/-! ### The configuration image -/

theorem between_iff {lo n hi : Nat} : between lo n hi = true ↔ (lo : Int) ≤ n ∧ (n : Int) ≤ hi := by simp [between]

theorem betweenInt_iff {lo n hi : Int} : betweenInt lo n hi = true ↔ lo ≤ n ∧ n ≤ hi := by simp [betweenInt]

/-- The cross-field constraints (R167, test 3). -/
theorem crossFieldsHold_iff (c : Settings) : crossFieldsHold c = true ↔ crossFields c := by
  simp only [crossFieldsHold, crossFields, Bool.and_eq_true, decide_eq_true_eq]
  tauto

theorem settingsAllowed_iff (c : Settings) : settingsAllowed c = true ↔
    (∀ row ∈ imageTable, row.lo ≤ row.field c ∧ row.field c ≤ row.hi) ∧ (c.maxWashInterval = 0 ∨ 10 ≤ c.maxWashInterval) ∧
      crossFields c := by
  simp only [settingsAllowed, Bool.and_eq_true, crossFieldsHold_iff, levelsInRange, screenInRange, pumpInRange, loopInRange,
    washSetInRange, between_iff, betweenInt_iff, Bool.or_eq_true, decide_eq_true_eq, imageTable, imageRowsLevel, imageRowsWash,
    imageRowsTide, imageRowsPump, List.cons_append, List.nil_append, List.forall_mem_cons, List.not_mem_nil, false_imp_iff,
    implies_true, and_true]
  constructor
  · intro h
    simp only [crossFields] at h
    and_intros
    all_goals omega
  · intro h
    simp only [crossFields] at h
    and_intros
    all_goals omega

theorem byteAt_lt (p : List Byte) (n : Nat) : byteAt p n < 256 := (p.getD n 0#8).isLt

theorem tripleAt_lt (p : List Byte) (n : Nat) : tripleAt p n < 16777216 := by
  have h0 := byteAt_lt p n
  have h1 := byteAt_lt p (n + 1)
  have h2 := byteAt_lt p (n + 2)
  simp only [tripleAt, wordAt]
  omega

/-- Every field is taken from its place in the image. -/
theorem imageFields_rows (p : List Byte) : ∀ row ∈ imageTable, row.field (imageFields p) = row.value p := by
  have hmask : (BitVec.ofNat 24 (tripleAt p 88)).toNat = tripleAt p 88 := by
    rw [BitVec.toNat_ofNat]
    exact Nat.mod_eq_of_lt (tripleAt_lt p 88)
  simp only [imageTable, imageRowsLevel, imageRowsWash, imageRowsTide, imageRowsPump, List.cons_append, List.nil_append,
    List.forall_mem_cons, List.not_mem_nil, false_imp_iff, implies_true, and_true, ImageRow.value, imageFields, washSetAt, hmask]

theorem paddingZero_iff {p : List Byte} (h : p.length = 100) :
    paddingZero p = true ↔ ∀ n, 91 ≤ n → n ≤ 97 → byteAt p n = 0 := by
  have hat (n : Nat) (hn : n < 100) : byteAt p n = 0 ↔ p[n]'(by omega) = 0#8 := by
    simp [byteAt, List.getD_eq_getElem?_getD, hn, h, BitVec.toNat_eq]
  have hlen : ((p.drop 91).take 7).length = 7 := by simp [h]
  rw [paddingZero, List.all_eq_true]
  constructor
  · intro hall n hlo hhi
    have hget : ((p.drop 91).take 7)[n - 91]'(by omega) = p[n]'(by omega) := by
      simp only [List.getElem_take, List.getElem_drop]
      congr 1
      omega
    rw [hat n (by omega), ← hget]
    exact of_decide_eq_true (hall _ (List.getElem_mem _))
  · intro hall b hb
    obtain ⟨i, hi, rfl⟩ := List.getElem_of_mem hb
    have hi7 : i < 7 := by omega
    have hz := (hat (91 + i) (by omega)).1 (hall (91 + i) (by omega) (by omega))
    simpa [List.getElem_take, List.getElem_drop] using hz

/-- An image is accepted by the three tests of R167. -/
theorem readImage_iff {p : List Byte} (h : p.length = 100) : readImage p = some (imageFields p) ↔
    (crc (p.take 98)).toNat = wordAt p 98 ∧ (∀ n, 91 ≤ n → n ≤ 97 → byteAt p n = 0) ∧
      (∀ row ∈ imageTable, row.lo ≤ row.value p ∧ row.value p ≤ row.hi) ∧ (wordAt p 37 = 0 ∨ 10 ≤ wordAt p 37) ∧
      crossFields (imageFields p) := by
  have hrows : (∀ row ∈ imageTable, row.lo ≤ row.value p ∧ row.value p ≤ row.hi) ↔
      ∀ row ∈ imageTable, row.lo ≤ row.field (imageFields p) ∧ row.field (imageFields p) ≤ row.hi :=
    forall₂_congr fun row hrow => by rw [imageFields_rows p row hrow]
  rw [readImage_eq_some_iff, paddingZero_iff h, settingsAllowed_iff, hrows]
  simp only [h, imageCrcAgrees, decide_eq_true_eq, true_and, and_true]
  rfl

/-- The end of the READ of the image, waited for. -/
theorem awaits_of {s : State} {r : Spi} (hr : s.inReset = false) (hp : s.loader.phase = .loading) (hspi : s.loader.spi = some r) :
    awaits r s = true := (awaits_eq_true_iff r s).2 ⟨hr, hp, hspi⟩

/-- Settles O7. -/
theorem configurationImageLoadsOrHalts : Obligations.ConfigurationImageLoadsOrHalts := by
  intro s image hr hp hspi hlen
  have ha : awaits imageRead s = true := awaits_of hr hp hspi
  refine ⟨imageFields_rows image, fun hacc => ?_, fun hnot => ⟨?_, fun hsc hpu hl => ?_⟩⟩
  · simp only [exec, execConfigImageReadDone, ha, if_true, (readImage_iff hlen).2 hacc]
    rfl
  · have hnone : readImage image = none := by
      refine Option.eq_none_iff_forall_ne_some.2 fun c hc => hnot ?_
      obtain rfl := (readImage_eq_some_iff.1 hc).2
      exact (readImage_iff hlen).1 hc
    simp only [exec, execConfigImageReadDone, ha, if_true, hnone]
    rfl
  · exact outputs_enterHalted (r := s.inReset) (.inl hp) hsc hpu hl

/-! ### LISTENING entry -/

theorem readRecord_of_length {p : List Byte} (h : p.length = 5) :
    readRecord p = if (crc (p.take 3)).toNat = wordAt p 3 then some (tripleAt p 0) else none := by
  simp [readRecord, h]

/-- LISTENING entry ends with the drive R103 chooses. -/
theorem enterListening_drive (x : Ctx) (s : State) : (enterListening x s).screen.drive = driveChoice (enterListening x s) := by
  unfold enterListening
  extract_lets l a b c d
  have hb : b.screen.drive = driveChoice b := by simp [b]
  have hc : c.screen.drive = driveChoice c := by
    simp only [c]
    split
    · exact (Quiet.of_eq (x := x)).drive hb
    · exact hb
  have hd : d.screen.drive = driveChoice d := by
    simp only [d]
    split
    · exact (annunciate_quiet x c .pumpTrip true).drive hc
    · exact hc
  have hlink : driveChoice (startLink x d) = driveChoice d := by apply driveChoice_congr <;> simp [startLink]
  rw [hlink, ← hd]
  simp [startLink]

/-- Settles O8. -/
theorem dutyRecordLeadsToListening : Obligations.DutyRecordLeadsToListening := by
  intro s b c record hr hp hspi hb hc hlen htx hhand hqueue
  have ha : awaits recordRead s = true := awaits_of hr hp hspi
  refine ⟨enterListening ⟨b, c⟩ (adopt c (recordTaken record s)), ?_, ?_⟩
  · simp only [exec, execDutyRecordReadDone, ha, if_true, hb, hc]
  · have hlink := enterListening_link (x := ⟨b, c⟩) (s := adopt c (recordTaken record s)) (by simpa [adopt] using htx)
      (by simpa [adopt] using hqueue)
    have hcounted : countedRunning (enterListening ⟨b, c⟩ (adopt c (recordTaken record s))) =
        countedRunning (adopt c (recordTaken record s)) := by simp [countedRunning]
    refine ⟨⟨?_, ?_⟩, ?_, ?_, ?_, ?_, ?_, ?_, ?_, ?_, ?_, ?_, ?_, ?_, ?_, ?_, ?_, ?_, ?_, enterListening_drive _ _, ?_, ?_, ?_, ?_, ?_, ?_,
      ?_, ?_, ?_, ?_⟩
    · by_cases hcrc : (crc (record.take 3)).toNat = wordAt record 3 <;> simp [adopt, readRecord_of_length hlen, hcrc]
    · by_cases hcrc : (crc (record.take 3)).toNat = wordAt record 3 <;> simp [adopt, readRecord_of_length hlen, hcrc]
    · simp [adopt, adoptedState]
    · simp [adopt]
    · simp [adopt, ahead]
    · simp [adopt]
    · simp [adopt]
    · simp [adopt]
    · simp [adopt]
    · rw [hcounted]; simp [adopt, ahead]
    · simp [adopt]
    · intro htrip hen hnormal
      have hstate : adoptedState s.lines = .tripped := by simpa [adopt] using htrip
      have hrise : (enterListening ⟨b, c⟩ (adopt c (recordTaken record s))).alarms =
          (annunciate ⟨b, c⟩ .pumpTrip true (adopt c (recordTaken record s))).alarms := by
        rw [enterListening_alarms, if_pos (by simp [adopt, hstate])]
      have hwas : alarmState (adopt c (recordTaken record s)) .pumpTrip = .normal :=
        (alarmState_congr (s := s) (by simp [adopt]) .pumpTrip).trans hnormal
      rw [alarmState_congr hrise, alarmState_annunciate, if_pos ⟨rfl, hen⟩, hwas]
      rfl
    · rw [hcounted]; simp [adopt, ahead]
    · simp [adopt]
    · simp [adopt]
    · simp [adopt, ahead, statusPeriodMs]
    · simp [adopt, ahead]
    · simp [adopt, ahead]
    · simp [adopt, ahead]
    · simp [adopt]
    · simp [hlink]
    · simp [hlink]
    · simp [hlink]
    · rw [hlink]; simp [adopt, ahead, statusPeriodMs]
    · simpa [adopt] using hr
    · simp [adopt]
    · simp [adopt]
    · simp [adopt]
    · simp [adopt]

end Sys2Proof.Machine
end

section
/-! PROOF. The pump's commands: a frame handed over, a change of pump state and what it does to counted running, and the start ring; the
statements O30 to O36 settled from them. -/

namespace Sys2Proof.Machine

set_option Elab.async false

/-! ### A frame handed over stays so -/

/-- A frame waits, or is in hand of a transmitter that is not IDLE: no later offer takes it back. -/
def Held (f : TxFrame) (s : State) : Prop :=
  f ∈ s.link.queue ∨ s.link.tx ≠ .idle ∧ ∃ h, s.link.inHand = some h ∧ h.frame = f

theorem Held.handedOver {f : TxFrame} {s : State} (h : Held f s) : handedOver f s := h.imp id And.right

theorem held_takeNext {x : Ctx} {f : TxFrame} {s : State} (h : Held f s) : Held f (takeNext x s) := by
  unfold takeNext
  split
  next g rest ht hq =>
    rcases h with h | ⟨hi, -⟩
    · rcases List.mem_cons.1 (hq ▸ h) with rfl | h
      · exact .inr ⟨by simp, _, rfl, rfl⟩
      · exact .inl h
    · exact absurd ht hi
  next => exact h

/-- A frame held stays so when another is offered. -/
theorem Held.offer {x : Ctx} {f g : TxFrame} {s : State} (h : Held f s) : Held f (offer x g s) := by
  unfold Machine.offer
  split
  · exact h
  · split
    · exact h
    · exact held_takeNext (h.imp (fun h => by simp [h]) id)

/-- A frame offered outside MUTE is held. -/
theorem held_offer {x : Ctx} {f : TxFrame} {s : State} (h : s.link.tx ≠ .mute) : Held f (offer x f s) := by
  unfold Machine.offer
  rw [if_neg h]
  split
  next hc =>
    obtain ⟨rfl, hq⟩ : f = .status ∧ TxFrame.status ∈ s.link.queue := by simpa using hc
    exact .inl hq
  next => exact held_takeNext (.inl (by simp))

theorem Held.of_link {f : TxFrame} {s t : State} (h : Held f s) (hl : t.link = s.link) : Held f t := by
  unfold Held; rw [hl]; exact h

/-- What blocks tell by STATUS alone leaves a frame held. -/
theorem Told.held {x : Ctx} {s t : State} {f : TxFrame} (h : Told x false s t) (hs : Held f s) : Held f t := by
  induction h with
  | quiet _ _ htx hi hq => exact hs.imp (fun h => by rw [hq]; exact h) fun ⟨h1, h2⟩ => ⟨by rw [htx]; exact h1, by rw [hi]; exact h2⟩
  | offer f s _ => exact hs.offer
  | cond a v s _ =>
    rcases setCond_link x a v s with h | ⟨u, hu, h⟩
    · exact hs.of_link h
    · exact ((hs.of_link hu).offer (x := x) (g := .status)).of_link h
  | acked s => exact hs.of_link rfl
  | cancel p s h => cases h
  | trans _ _ ih1 ih2 => exact ih2 (ih1 hs)

/-- A STATUS held stays so under all that the blocks tell. -/
theorem Told.held_status {x : Ctx} {w : Bool} {s t : State} (h : Told x w s t) (hk : w = false) (hs : Held .status s) :
    Held .status t := (hk ▸ h).held hs

/-! ### A change of pump state -/

theorem setPump_same {x : Ctx} {p : PumpState} {s : State} (h : s.pump.state = p) : setPump x p s = s := by
  simp [setPump, h]

/-- A change of pump state hands a STATUS over (R144). -/
theorem setPump_held {x : Ctx} {p : PumpState} {s : State} (h : s.pump.state ≠ p) (hm : s.link.tx ≠ .mute) :
    Held .status (setPump x p s) := by
  unfold setPump
  rw [if_neg h]
  have hs : Held .status (offerStatus x { s with pump := { s.pump with state := p } }) := held_offer hm
  have h1 := hs.of_link (t := noteCounted x (countedRunning s) (offerStatus x { s with pump := { s.pump with state := p } })) (by simp)
  have h2 := (Told.cond (x := x) (w := false) .pumpTrip (decide (p = .tripped)) _ (by decide)).held h1
  exact (Told.cond (x := x) (w := false) .pumpFail (decide (p = .failed)) _ (by decide)).held h2

/-- SUCTION LOW and SCREEN BLOCKED do not follow the pump. -/
@[simp] theorem setPump_blocks (x : Ctx) (p : PumpState) (s : State) :
    (setPump x p s).conds.suctionLow = s.conds.suctionLow ∧ (setPump x p s).conds.screenBlocked = s.conds.screenBlocked := by
  rw [(setPump_pumpOnly x p s).conds]
  exact ⟨rfl, rfl⟩

/-- The parts of the station a change of pump state may move. -/
theorem setPump_eq (x : Ctx) (p : PumpState) (s : State) : setPump x p s = { s with
    fouling := (setPump x p s).fouling, pump := (setPump x p s).pump, conds := (setPump x p s).conds,
    alarms := (setPump x p s).alarms, link := (setPump x p s).link, loader := (setPump x p s).loader } := by
  apply State.eq_of_parts <;> simp

/-! ### Counted running -/

/-- A change of pump state that leaves counted running moves nothing of the run time, the fouling monitor and the loader. -/
theorem setPump_counted_same {x : Ctx} {p : PumpState} {s : State} (h : countsRunning p s.lines.run = countedRunning s) :
    (setPump x p s).pump = { s.pump with state := p } ∧ (setPump x p s).fouling = s.fouling ∧ (setPump x p s).loader = s.loader := by
  unfold setPump
  split
  next hp => exact ⟨by rw [← hp], rfl, rfl⟩
  next =>
    have hn : noteCounted x (countedRunning s) (offerStatus x { s with pump := { s.pump with state := p } }) =
        offerStatus x { s with pump := { s.pump with state := p } } := by
      unfold noteCounted
      rw [if_pos (by simpa [countedRunning] using h)]
    simp [hn]

/-- A change of pump state moves the run time, the mark and the loader as the change of counted running it brings. -/
theorem setPump_counted {x : Ctx} {p : PumpState} {s : State} (h : s.pump.state ≠ p) :
    ∃ t, countedRunning t = countsRunning p s.lines.run ∧ t.clock = s.clock ∧ t.fouling = s.fouling ∧ t.loader = s.loader ∧
      t.pump = { s.pump with state := p } ∧ (setPump x p s).pump = (noteCounted x (countedRunning s) t).pump ∧
      (setPump x p s).fouling = (noteCounted x (countedRunning s) t).fouling ∧
      (setPump x p s).loader = (noteCounted x (countedRunning s) t).loader := by
  refine ⟨offerStatus x { s with pump := { s.pump with state := p } }, ?_⟩
  unfold setPump
  rw [if_neg h]
  simp [countedRunning]

/-- Counted running begins: the mark is set, and the settle hold and the rest of the minute start (R59, R143). -/
theorem noteCounted_begins {x : Ctx} {s : State} (h : countedRunning s = true) :
    (noteCounted x false s).fouling.runningMark = true ∧
    (noteCounted x false s).fouling.settleTimer = some (s.clock + ms (x.cfg.settleTime * 1000)) ∧
    (noteCounted x false s).pump.minuteTimer = some (s.clock + ms (60000 - s.pump.minuteAcc)) := by
  unfold noteCounted countedChanged
  simp [h, ahead]

theorem setPump_begins {x : Ctx} {p : PumpState} {s : State} (hb : countedRunning s = false)
    (he : countsRunning p s.lines.run = true) : (setPump x p s).fouling.runningMark = true ∧
    (setPump x p s).fouling.settleTimer = some (s.clock + ms (x.cfg.settleTime * 1000)) ∧
    (setPump x p s).pump.minuteTimer = some (s.clock + ms (60000 - s.pump.minuteAcc)) := by
  have hp : s.pump.state ≠ p := fun h => by simp [countedRunning, h, he] at hb
  obtain ⟨t, hc, hclock, -, -, hpump, h1, h2, -⟩ := setPump_counted (x := x) hp
  obtain ⟨k1, k2, k3⟩ := noteCounted_begins (x := x) (hc.trans he)
  rw [h1, h2, hb, k1, k2, k3, hclock, hpump]
  exact ⟨rfl, rfl, rfl⟩

/-! ### The end of counted running -/

theorem requestWrite_requested (s : State) : writeRequested false s (requestWrite s) := by
  have hc : (s.loader.write = .idle && !(s.loader.phase = .listening && s.loader.mark = .lost)) = true ↔
      ¬(s.loader.write ≠ .idle ∨ s.loader.phase = .listening ∧ s.loader.mark = .lost) := by
    simp only [Bool.and_eq_true, decide_eq_true_eq, Bool.not_eq_true', Bool.and_eq_false_iff, decide_eq_false_iff_not]
    tauto
  unfold requestWrite
  exact ⟨fun h => by rw [if_neg (hc.not.2 (not_not.2 h))], fun h => by rw [if_pos (hc.2 h)]; rfl⟩

/-- Of two requests of one event the second is held while the first is written. -/
theorem requestWrite_twice (s : State) : writeRequested true s (requestWrite (requestWrite s)) := by
  obtain ⟨h1, h2⟩ := requestWrite_requested s
  obtain ⟨k1, -⟩ := requestWrite_requested (requestWrite s)
  refine ⟨fun h => ?_, fun h => ?_⟩
  · rw [k1 (by rw [h1 h]; exact h), h1 h]
  · rw [k1 (by rw [h2 h]; simp), h2 h]

theorem writeRequested.congr {again : Bool} {s s' t t' : State} (h : writeRequested again s t) (hs : s'.loader = s.loader)
    (ht : t'.loader = t.loader) : writeRequested again s' t' := by
  unfold writeRequested at *
  rwa [hs, ht]

/-- What an end of counted running does to the run time and the record. -/
def CountEnds (s t : State) : Prop := t.pump.minuteTimer = none ∧ minutesKept s t ∧ endRequested s t

theorem CountEnds.congr {s s' t t' : State} (h : CountEnds s t) (hc : s'.clock = s.clock) (h1 : s'.pump.minuteTimer = s.pump.minuteTimer)
    (h2 : s'.pump.runMinutes = s.pump.runMinutes) (h3 : s'.loader = s.loader)
    (h5 : t'.pump.minuteTimer = t.pump.minuteTimer) (h6 : t'.pump.runMinutes = t.pump.runMinutes)
    (h7 : t'.pump.minuteAcc = t.pump.minuteAcc) (h8 : t'.loader = t.loader) : CountEnds s' t' := by
  obtain ⟨k1, k2, k3⟩ := h
  refine ⟨by rw [h5, k1], ?_, ?_⟩
  · unfold minutesKept at *
    rw [hc, h1, h2, h6, h7]
    exact k2
  · unfold endRequested at *
    rw [h2, h6]
    exact k3.congr h3 h8

/-- A minute more, and the request of a whole hour and that of the end of running (R143, R144). -/
theorem addMinute_endRequested (s : State) : endRequested s (requestWrite (addMinute s)) := by
  unfold endRequested
  have hr : (requestWrite (addMinute s)).pump.runMinutes = (addMinute s).pump.runMinutes := by simp
  rw [hr]
  unfold addMinute
  dsimp only
  split
  next hle =>
    split
    next hh =>
      have hd : decide (s.pump.runMinutes + 1 ≠ s.pump.runMinutes ∧ (s.pump.runMinutes + 1) % 60 = 0) = true := by simp [hh]
      simp only [requestWrite_frame, hd]
      exact (requestWrite_twice { s with pump := { s.pump with runMinutes := s.pump.runMinutes + 1 } }).congr rfl rfl
    next hh =>
      have hd : decide (s.pump.runMinutes + 1 ≠ s.pump.runMinutes ∧ (s.pump.runMinutes + 1) % 60 = 0) = false := by simp [hh]
      simp only [hd]
      exact (requestWrite_requested { s with pump := { s.pump with runMinutes := s.pump.runMinutes + 1 } }).congr rfl rfl
  next hle => simpa using requestWrite_requested s

theorem requestWrite_endRequested (s : State) : endRequested s (requestWrite s) := by
  unfold endRequested
  simpa using requestWrite_requested s

/-- The end of counted running: the elapsed part of the minute is kept, and a record write requested (R143, R144). -/
theorem stopMinutes_ends (s : State) : CountEnds s (requestWrite (stopMinutes s)) := by
  unfold stopMinutes
  split
  next m hm =>
    dsimp only
    split
    next hfull =>
      have hleft : (m - s.clock).toInt ≤ 0 := by unfold accumulated at hfull; omega
      obtain ⟨f1, f2, -⟩ := addMinute_fields { s with pump := { s.pump with minuteTimer := none, minuteAcc := 0 } }
      have f3 := addMinute_runMinutes { s with pump := { s.pump with minuteTimer := none, minuteAcc := 0 } }
      refine ⟨by simpa using f1, fun d hd => ?_, addMinute_endRequested
        { s with pump := { s.pump with minuteTimer := none, minuteAcc := 0 } }⟩
      obtain rfl : m = d := Option.some.inj (hm.symm.trans hd)
      exact ⟨fun h => absurd hleft (not_le.2 h), fun _ => ⟨by simpa using f3, by simpa using f2⟩⟩
    next hpart =>
      have hleft : 0 < (m - s.clock).toInt := by unfold accumulated at hpart; omega
      refine ⟨by simp, fun d hd => ?_, requestWrite_endRequested
        { s with pump := { s.pump with minuteTimer := none, minuteAcc := (accumulated m s.clock).toNat } }⟩
      obtain rfl : m = d := Option.some.inj (hm.symm.trans hd)
      refine ⟨fun _ hle => ⟨by simp, ?_⟩, fun h => absurd hleft (not_lt.2 h)⟩
      simp only [requestWrite_frame]
      unfold accumulated
      exact Int.toNat_of_nonneg (by omega)
  next hn => exact ⟨by simpa using hn, fun d hd => by simp [hn] at hd, requestWrite_endRequested s⟩

theorem noteCounted_ends {x : Ctx} {s : State} (h : countedRunning s = false) : CountEnds s (noteCounted x true s) ∧
    (noteCounted x true s).fouling =
      { s.fouling with runningMark := false, settleTimer := some (s.clock + ms (x.cfg.settleTime * 1000)) } := by
  refine ⟨?_, by rw [noteCounted_fouling]; simp [h, ahead]⟩
  unfold noteCounted countedChanged
  simp only [h]
  exact (stopMinutes_ends { s with fouling := { s.fouling with
    runningMark := false, settleTimer := ahead s (x.cfg.settleTime * 1000) } }).congr rfl rfl rfl rfl rfl rfl rfl rfl

theorem setPump_ends {x : Ctx} {p : PumpState} {s : State} (hb : countedRunning s = true)
    (he : countsRunning p s.lines.run = false) : CountEnds s (setPump x p s) ∧ (setPump x p s).fouling =
      { s.fouling with runningMark := false, settleTimer := some (s.clock + ms (x.cfg.settleTime * 1000)) } := by
  have hp : s.pump.state ≠ p := fun h => by simp [countedRunning, h, he] at hb
  obtain ⟨t, hc, hclock, hf, hl, hpump, h1, h2, h3⟩ := setPump_counted (x := x) hp
  obtain ⟨k1, k2⟩ := noteCounted_ends (x := x) (hc.trans he)
  rw [hb] at h1 h2 h3
  refine ⟨k1.congr hclock.symm ?_ ?_ hl.symm ?_ ?_ ?_ h3, by rw [h2, k2, hf, hclock]⟩
  · rw [hpump]
  · rw [hpump]
  all_goals rw [h1]

end Sys2Proof.Machine
end

section
/-! PROOF. The pump's commands: its timers, the start ring and the contacts; the statements O30 to O36. -/

namespace Sys2Proof.Machine

set_option Elab.async false

/-! ### The start ring -/

/-- The oldest filled slot is the first filled one from the pointer on (R140). -/
theorem oldestSlot_eq {p : Pump} {k : Fin 6} (hk : (p.ring[p.pointer + k]).isSome = true)
    (hj : ∀ j : Fin 6, j < k → p.ring[p.pointer + j] = none) : oldestSlot p = some (p.pointer + k) := by
  have h0 := hj 0
  have h1 := hj 1
  have h2 := hj 2
  have h3 := hj 3
  have h4 := hj 4
  unfold oldestSlot ringOrder
  fin_cases k <;> simp_all [List.find?]

theorem oldestSlot_eq_none {p : Pump} (h : ∀ j : Fin 6, p.ring[p.pointer + j] = none) : oldestSlot p = none := by
  have h0 := h 0
  have h1 := h 1
  have h2 := h 2
  have h3 := h 3
  have h4 := h 4
  have h5 := h 5
  unfold oldestSlot ringOrder
  simp_all [List.find?]

/-- The slot k places from the pointer emptied, the others as they were. -/
theorem ring_emptied (p : Pump) (k j : Fin 6) : (p.ring.set (p.pointer + k : Fin 6) none)[p.pointer + j] =
    if j = k then none else p.ring[p.pointer + j] := by
  by_cases h : j = k
  · subst h; simp
  · have hne : (p.pointer + k).val ≠ (p.pointer + j).val := fun e => h (add_left_cancel (Fin.ext e)).symm
    simp only [Fin.getElem_fin]
    rw [if_neg h, Vector.getElem_set_ne _ _ hne]

theorem ageTimerFor_eq {p : Pump} {i : Fin 6} {v : Clock} (h : oldestSlot p = some i) (hv : p.ring[i] = some v) :
    ageTimerFor p = some (v + ms hourMs) := by
  simp only [ageTimerFor, h, hv, Option.map_some]

theorem dropOldestStart_of {s : State} {i : Fin 6} (h : oldestSlot s.pump = some i) : dropOldestStart s =
    { s with pump := { s.pump with
      ring := s.pump.ring.set i none, ageTimer := ageTimerFor { s.pump with ring := s.pump.ring.set i none } } } := by
  simp [dropOldestStart, h]

/-- Settles O32. -/
theorem spellsEndStartsAgeAndMinutesCount : Obligations.SpellsEndStartsAgeAndMinutesCount := by
  intro s x d hx hd
  refine ⟨fun h => ?_, fun h => ?_, fun h => ?_, fun h => ?_, fun h k hk hj => ?_, fun h => ?_⟩
  · exact congrArg _ (whenLive_due (T := fun s => s.fouling.settleTimer) hx h hd _)
  · exact congrArg _ (whenLive_due (T := fun s => s.pump.minRunTimer) hx h hd _)
  · exact congrArg _ (whenLive_due (T := fun s => s.pump.minStopTimer) hx h hd _)
  · exact congrArg _ (whenLive_due (T := fun s => s.screen.intervalTimer) hx h hd _)
  · refine ⟨dropOldestStart s, congrArg _ (whenLive_due (T := fun s => s.pump.ageTimer) hx h hd _), ?_⟩
    have ho := oldestSlot_eq hk hj
    rw [dropOldestStart_of ho]
    refine ⟨rfl, ?_, fun hn => ?_, fun n v hkn hv hm => ?_, rfl⟩
    · have hc := countP_set_isSome s.pump.ring (s.pump.pointer + k) none
      rw [if_pos hk] at hc
      simpa [startsInLastHour] using hc
    · have he : oldestSlot { s.pump with ring := s.pump.ring.set (s.pump.pointer + k : Fin 6) none } = none := by
        refine oldestSlot_eq_none fun j => ?_
        rw [ring_emptied]
        rcases lt_trichotomy j k with h | h | h
        · rw [hj j h, ite_self]
        · rw [if_pos h]
        · rw [hn j h, ite_self]
      simp [ageTimerFor, he]
    · have hv' : (s.pump.ring.set (s.pump.pointer + k : Fin 6) none)[s.pump.pointer + n] = some v := by
        rw [ring_emptied, if_neg hkn.ne', hv]
      have he : oldestSlot { s.pump with ring := s.pump.ring.set (s.pump.pointer + k : Fin 6) none } = some (s.pump.pointer + n) := by
        refine oldestSlot_eq (p := { s.pump with ring := s.pump.ring.set (s.pump.pointer + k : Fin 6) none }) ?_ fun j hjn => ?_
        · exact hv' ▸ rfl
        rw [ring_emptied]
        rcases lt_trichotomy j k with h | h | h
        · rw [hj j h, ite_self]
        · rw [if_pos h]
        · rw [hm j h hjn, ite_self]
      exact ageTimerFor_eq he hv'
  · refine ⟨addMinute { s with pump := { s.pump with minuteTimer := rearmed d 60000, minuteAcc := 0 } },
      congrArg _ (whenLive_due (T := fun s => s.pump.minuteTimer) hx h hd _), ?_, ?_, ?_, ?_⟩
    · rw [addMinute_pump_kept, addMinute_runMinutes]
      rfl
    · intro hlt hh
      have he : addMinute { s with pump := { s.pump with minuteTimer := rearmed d 60000, minuteAcc := 0 } } = requestWrite
          { s with pump := { s.pump with minuteTimer := rearmed d 60000, minuteAcc := 0, runMinutes := s.pump.runMinutes + 1 } } := by
        unfold addMinute
        dsimp only
        rw [if_pos (by omega), if_pos hh]
      rw [he]
      exact (requestWrite_requested { s with pump := { s.pump with
        minuteTimer := rearmed d 60000, minuteAcc := 0, runMinutes := s.pump.runMinutes + 1 } }).congr rfl rfl
    · intro hh
      unfold addMinute
      dsimp only
      rw [if_neg hh]
      split <;> rfl
    · apply State.eq_of_parts <;> simp

/-! ### Entries to the pump states -/

section
variable (x : Ctx) (s : State)

/-- Entry to FAILED or TRIPPED moves the alarm of the state with it. -/
theorem enterFailed_conds (h : s.pump.state ≠ .failed) :
    (enterFailed x s).conds = { s.conds with pumpTrip := false, pumpFail := true } := by
  unfold enterFailed
  rw [setPump_conds (by simpa using h)]
  rfl

theorem enterTripped_conds (h : s.pump.state ≠ .tripped) :
    (enterTripped x s).conds = { s.conds with pumpTrip := true, pumpFail := false } := by
  unfold enterTripped
  rw [setPump_conds (by simpa using h)]
  rfl

theorem enterStopped_conds (h : s.pump.state ≠ .stopped) :
    (enterStopped x s).conds = { s.conds with pumpTrip := false, pumpFail := false } := by
  unfold enterStopped
  rw [setPump_conds (by simpa using h)]
  rfl

/-- An entry to another state hands a STATUS over (R144). -/
theorem enterTripped_held (h : s.pump.state ≠ .tripped) (hm : s.link.tx ≠ .mute) : Held .status (enterTripped x s) :=
  setPump_held (s := stopSupervision (cutPulse s)) h hm

theorem withdrawStart_held {c : Cause} (h : s.pump.state ≠ .stopped) (hm : s.link.tx ≠ .mute) : Held .status (withdrawStart x c s) :=
  setPump_held (s := { s with pump := { s.pump with guardTimer := none, cause := c } }) h hm

/-- The own bay is counted running by its contact alone. -/
theorem countedRunning_of (h1 : s.pump.state ≠ .starting) (h2 : s.pump.state ≠ .running) : countedRunning s = s.lines.run := by
  simp [countedRunning, countsRunning, h1, h2]

theorem countedRunning_of_run (h : s.lines.run = true) : countedRunning s = s.lines.run := by
  simp [countedRunning, countsRunning, h]

variable {s} (hc : countedRunning s = s.lines.run)
include hc

/-- Entry to STOPPED of a bay counted running by its contact alone. -/
theorem enterStopped_moves : (enterStopped x s).pump =
    { s.pump with state := .stopped, feedbackTimer := none, minStopTimer := some (s.clock + ms (x.cfg.minStop * 60000)) } ∧
    (enterStopped x s).fouling = s.fouling ∧ (enterStopped x s).loader = s.loader := by
  unfold enterStopped
  obtain ⟨hp, hf, hl⟩ := setPump_counted_same (x := x) (p := .stopped) (s := { s with pump := { s.pump with
    feedbackTimer := none, minStopTimer := ahead s (x.cfg.minStop * 60000) } }) hc.symm
  exact ⟨hp, hf, hl⟩

/-- Entry to FAILED of a bay counted running by its contact alone. -/
theorem enterFailed_moves : (enterFailed x s).pump =
    { s.pump with state := .failed, guardTimer := none, feedbackTimer := none, minRunTimer := none } ∧
    (enterFailed x s).fouling = s.fouling ∧ (enterFailed x s).loader = s.loader := by
  unfold enterFailed
  exact setPump_counted_same (x := x) (p := .failed) (s := stopSupervision s) hc.symm

/-- Entry to TRIPPED of a bay counted running by its contact alone. -/
theorem enterTripped_moves : (enterTripped x s).pump =
    { s.pump with state := .tripped, pulse := none, pulseTimer := none, guardTimer := none, feedbackTimer := none,
                  minRunTimer := none } ∧
    (enterTripped x s).fouling = s.fouling ∧ (enterTripped x s).loader = s.loader := by
  unfold enterTripped
  exact setPump_counted_same (x := x) (p := .tripped) (s := stopSupervision (cutPulse s)) hc.symm

/-- Entry to STOPPING of a bay counted running by its contact alone. -/
theorem enterStopping_moves : (enterStopping x s).fouling = s.fouling ∧ (enterStopping x s).loader = s.loader := by
  unfold enterStopping
  refine (setPump_counted_same (x := x) (p := .stopping) ?_).2
  exact hc.symm

omit hc
variable (s)

/-- The protective stop at an entry: its state, its pulse and what it leaves (R136). -/
theorem protectOnEntry_free (h1 : s.conds.suctionLow = false) (h2 : s.conds.screenBlocked = false) : protectOnEntry x s = s := by
  simp [protectOnEntry, h1, h2]

theorem protectOnEntry_stops (h : s.conds.suctionLow = true ∨ s.conds.screenBlocked = true) :
    protectOnEntry x s = enterStopping x s := by
  unfold protectOnEntry
  rw [if_pos (by simpa using h)]

theorem enterStopping_state : (enterStopping x s).pump.state = .stopping ∧ (enterStopping x s).pump.pulse = some .stop := by
  simp [enterStopping]

/-- Running taken over with the contact closed moves neither the fouling monitor nor the loader. -/
theorem takeOverRunning_kept (h : s.lines.run = true) :
    (takeOverRunning x s).fouling = s.fouling ∧ (takeOverRunning x s).loader = s.loader ∧
    (takeOverRunning x s).pump.ring = s.pump.ring := by
  unfold takeOverRunning
  obtain ⟨-, hf, hl⟩ := setPump_counted_same (x := x) (p := .running) (s := { s with pump := { s.pump with minRunTimer := none } })
    (by simp [countedRunning, countsRunning, h])
  unfold protectOnEntry
  split
  · obtain ⟨hf', hl'⟩ := enterStopping_moves x (s := setPump x .running { s with pump := { s.pump with minRunTimer := none } })
      (countedRunning_of_run _ (by simpa using h))
    exact ⟨hf'.trans hf, hl'.trans hl, by simp [enterStopping]⟩
  · exact ⟨hf, hl, by simp⟩

/-- The state running is taken over in: RUNNING, unless a protective stop stands against it. -/
theorem takeOverRunning_state :
    (s.conds.suctionLow = false → s.conds.screenBlocked = false →
      (takeOverRunning x s).pump.state = .running ∧ (takeOverRunning x s).pump.minRunTimer = none) ∧
    (s.conds.suctionLow = true ∨ s.conds.screenBlocked = true →
      (takeOverRunning x s).pump.state = .stopping ∧ (takeOverRunning x s).pump.pulse = some .stop) := by
  unfold takeOverRunning
  refine ⟨fun h1 h2 => ?_, fun h => ?_⟩
  · rw [protectOnEntry_free x _ (by simpa using h1) (by simpa using h2)]
    simp
  · rw [protectOnEntry_stops x _ (by simpa using h)]
    exact enterStopping_state x _

end

/-! ### The contacts -/

/-- A line moved leaves the station at work, or at rest. -/
theorem whenLive_lines {s : State} {x : Ctx} (hx : ctx? s = some x) (l : Lines) (act : Ctx → State → State) :
    whenLive { s with lines := l } act = act x { s with lines := l } := whenLive_of (s := { s with lines := l }) hx act

theorem whenLive_lines_none {s : State} (hx : ctx? s = none) (l : Lines) (act : Ctx → State → State) :
    whenLive { s with lines := l } act = { s with lines := l } := whenLive_none (s := { s with lines := l }) hx act

/-- Settles O35. -/
theorem tripContactRulesThePump : Obligations.TripContactRulesThePump := by
  intro s
  refine ⟨fun hx h => ?_, fun hx h => ?_, fun x hx => ⟨fun h hp => ?_, fun h h1 h2 => ?_, fun h hp => ?_, fun h hp => ?_⟩⟩
  · simp only [exec, execTripCloses, h, Bool.false_eq_true, if_false]
    exact congrArg _ (whenLive_lines_none hx _ _)
  · simp only [exec, execTripOpens, h, if_true]
    exact congrArg _ (whenLive_lines_none hx _ _)
  · simp only [exec, execTripCloses, h, Bool.false_eq_true, if_false]
    exact congrArg _ ((whenLive_lines hx _ _).trans (if_pos hp))
  · refine ⟨enterTripped x { s with lines := { s.lines with trip := true } }, ?_, by simp, by simp [enterTripped], ?_,
      by simp [enterTripped], by simp [enterTripped], by simp [enterTripped], by simp [enterTripped], by simp [enterTripped],
      by simp [enterTripped], by simp [enterTripped], by simp [enterTripped], fun hm => ?_, ?_⟩
    · simp only [exec, execTripCloses, h, Bool.false_eq_true, if_false]
      exact congrArg _ ((whenLive_lines hx _ _).trans (if_neg h1))
    · exact enterTripped_conds x _ h2
    · exact (enterTripped_held x { s with lines := { s.lines with trip := true } } h2 hm).handedOver
    · apply State.eq_of_parts <;> simp
  · simp only [exec, execTripOpens, h, if_true]
    exact congrArg _ ((whenLive_lines hx _ _).trans (if_neg hp))
  · have hstep : exec .tripOpens s = .next (if s.lines.run then enterFailed x { s with lines := { s.lines with trip := false } }
        else enterStopped x { s with lines := { s.lines with trip := false } }) := by
      simp only [exec, execTripOpens, h, if_true]
      exact congrArg _ ((whenLive_lines hx _ _).trans (if_pos hp))
    rw [hstep]
    have hcr := countedRunning_of { s with lines := { s.lines with trip := false } } (by simp [hp]) (by simp [hp])
    have h3 : s.pump.state ≠ .stopped := by simp [hp]
    have h4 : s.pump.state ≠ .failed := by simp [hp]
    cases hr : s.lines.run
    · obtain ⟨hpump, hf, hl⟩ := enterStopped_moves x hcr
      have hc := enterStopped_conds x { s with lines := { s.lines with trip := false } } h3
      refine ⟨_, rfl, ?_⟩
      simp only [Bool.false_eq_true, if_false]
      refine ⟨by simp, by rw [hc], fun h => by simp at h, fun _ => ?_, hf, hl, ?_, ?_⟩
      · rw [hpump, hc]; exact ⟨rfl, rfl, rfl⟩
      · rw [hpump]
      · apply State.eq_of_parts <;> simp [hf, hl]
    · obtain ⟨hpump, hf, hl⟩ := enterFailed_moves x hcr
      have hc := enterFailed_conds x { s with lines := { s.lines with trip := false } } h4
      refine ⟨_, rfl, ?_⟩
      simp only [if_true]
      refine ⟨by simp, by rw [hc], fun _ => ?_, fun h => by simp at h, hf, hl, ?_, ?_⟩
      · rw [hpump, hc]; exact ⟨rfl, rfl, rfl⟩
      · rw [hpump]
      · apply State.eq_of_parts <;> simp [hf, hl]

/-- What LOCKED ends in by the contacts moves neither the fouling monitor, nor the loader, nor the start ring. -/
theorem leaveLocked_kept (x : Ctx) {s : State} (hp : s.pump.state = .locked) : (leaveLocked x s).fouling = s.fouling ∧
    (leaveLocked x s).loader = s.loader ∧ (leaveLocked x s).pump.ring = s.pump.ring := by
  have hcr := countedRunning_of s (by simp [hp]) (by simp [hp])
  unfold leaveLocked
  split
  · obtain ⟨hpump, hf, hl⟩ := enterTripped_moves x hcr
    exact ⟨hf, hl, by rw [hpump]⟩
  · split
    next hr => exact takeOverRunning_kept x s hr
    next =>
      obtain ⟨hpump, hf, hl⟩ := enterStopped_moves x hcr
      exact ⟨hf, hl, by rw [hpump]⟩

/-- Settles O36. -/
theorem localSelectorLocksThePump : Obligations.LocalSelectorLocksThePump := by
  intro s
  refine ⟨fun hx h => ?_, fun hx h => ?_, fun x hx => ⟨fun h hp => ?_, fun h hp => ?_, fun h hp => ?_⟩⟩
  · simp only [exec, execLocalCloses, h, Bool.false_eq_true, if_false]
    exact congrArg _ (whenLive_lines_none hx _ _)
  · simp only [exec, execLocalOpens, h, if_true]
    exact congrArg _ (whenLive_lines_none hx _ _)
  · refine ⟨enterLocked x { s with lines := { s.lines with localSel := true } }, ?_, by simp, by simp [enterLocked], ?_,
      by simp [enterLocked], by simp [enterLocked], by simp [enterLocked], by simp [enterLocked], by simp [enterLocked],
      by simp [enterLocked], by simp [enterLocked], ?_⟩
    · simp only [exec, execLocalCloses, h, Bool.false_eq_true, if_false]
      exact congrArg _ (whenLive_lines hx _ _)
    · unfold enterLocked
      rw [setPump_conds (by simpa using hp)]
      rfl
    · apply State.eq_of_parts <;> simp
  · obtain ⟨hf, hl, hring⟩ := leaveLocked_kept x (s := { s with lines := { s.lines with localSel := false } }) hp
    refine ⟨leaveLocked x { s with lines := { s.lines with localSel := false } }, ?_, by simp, fun ht => ?_, fun ht hr h1 h2 => ?_,
      fun ht hr hb => ?_, fun ht hr => ?_, hf, hl, hring, ?_⟩
    · simp only [exec, execLocalOpens, h, if_true]
      exact congrArg _ ((whenLive_lines hx _ _).trans (if_pos hp))
    · simp only [leaveLocked, ht, if_true]
      rw [enterTripped_conds x _ (by simp [hp])]
      simp [enterTripped]
    · simp only [leaveLocked, ht, hr, Bool.false_eq_true, if_true, if_false]
      exact (takeOverRunning_state x _).1 h1 h2
    · simp only [leaveLocked, ht, hr, Bool.false_eq_true, if_true, if_false]
      exact (takeOverRunning_state x _).2 hb
    · simp only [leaveLocked, ht, hr, Bool.false_eq_true, if_false]
      simp [enterStopped, ahead]
    · apply State.eq_of_parts <;> simp [hf, hl]
  · simp only [exec, execLocalOpens, h, if_true]
    exact congrArg _ ((whenLive_lines hx _ _).trans (if_neg hp))

/-! ### The timers of a start, a stop and a pulse -/

/-- Settles O31. -/
theorem feedbackAndPulseTimersRunOut : Obligations.FeedbackAndPulseTimersRunOut := by
  intro s x d hx hd minStop
  refine ⟨fun h => ?_, fun h => ?_, fun h ht => ?_, fun h ht => ?_, fun ht => ⟨fun h hpulse hr => ?_, fun h => ?_⟩⟩
  · exact congrArg _ ((whenLive_of hx _).trans (if_neg h))
  · exact congrArg _ ((whenLive_of hx _).trans (if_neg h))
  · refine ⟨issuePulse x .stop (enterFailed x s), ?_, by simp [enterFailed], ?_, by simp, by simp [ahead], by simp [enterFailed],
      by simp [enterFailed], by simp [enterFailed], by simp [enterFailed], by simp [enterFailed], by simp [enterFailed],
      fun hr => ?_, ?_⟩
    · exact congrArg _ ((whenLive_of hx _).trans ((if_pos h).trans (onExpiry_due ht hd _)))
    · simp only [issuePulse_frame]
      rw [enterFailed_conds x s (by simp [h])]
    · obtain ⟨hends, hf⟩ := setPump_ends (x := x) (p := .failed) (s := stopSupervision s) (by simp [countedRunning, countsRunning, h])
        (by simp [countsRunning, hr])
      obtain ⟨k1, k2, k3⟩ := hends.congr (s' := s) (t' := issuePulse x .stop (enterFailed x s)) rfl rfl rfl rfl rfl rfl rfl rfl
      exact ⟨congrArg Fouling.runningMark hf, k1, k2, k3⟩
    · apply State.eq_of_parts <;> simp
  · have hstep : exec .stopTimeout s = .next (if s.lines.run then enterFailed x s else enterStopped x s) :=
      congrArg _ ((whenLive_of hx _).trans ((if_pos h).trans (onExpiry_due ht hd _)))
    have hcr := countedRunning_of s (by simp [h]) (by simp [h])
    rw [hstep]
    cases hr : s.lines.run
    · obtain ⟨hpump, hf, hl⟩ := enterStopped_moves x hcr
      refine ⟨enterStopped x s, rfl, by rw [hpump], by rw [hpump], fun h => by simp at h, fun _ => ?_, by rw [hpump],
        by rw [hpump], hf, hl, ?_⟩
      · rw [hpump]; exact ⟨rfl, rfl⟩
      · apply State.eq_of_parts <;> simp [hf, hl]
    · obtain ⟨hpump, hf, hl⟩ := enterFailed_moves x hcr
      refine ⟨enterFailed x s, rfl, by rw [hpump], by rw [hpump], fun _ => ?_, fun h => by simp at h, by rw [hpump],
        by rw [hpump], hf, hl, ?_⟩
      · rw [hpump, enterFailed_conds x s (by simp [h])]
        exact ⟨rfl, rfl, rfl⟩
      · apply State.eq_of_parts <;> simp [hf, hl]
  · have hcr := countedRunning_of (cutPulse s) (by simp [h]) (by simp [h])
    obtain ⟨hpump, hf, hl⟩ := enterStopped_moves x hcr
    refine ⟨enterStopped x (cutPulse s), ?_, by rw [hpump], by rw [hpump]; rfl, by rw [hpump]; rfl, by rw [hpump],
      by rw [hpump]; rfl, hf, hl, ?_⟩
    · refine congrArg _ ((whenLive_due (T := fun s => s.pump.pulseTimer) hx ht hd _).trans (if_pos ?_))
      simp [h, hpulse, hr]
    · apply State.eq_of_parts <;> simp [hf, hl]
  · refine congrArg _ ((whenLive_due (T := fun s => s.pump.pulseTimer) hx ht hd _).trans (if_neg ?_))
    simp only [Bool.and_eq_true, decide_eq_true_eq, Bool.not_eq_true']
    rintro ⟨⟨h1, h2⟩, h3⟩
    rcases h with h | h | h
    · exact h h1
    · exact h h2
    · simp [h] at h3

/-! ### The guard -/

theorem peerStarting_iff (x : Ctx) (s : State) :
    peerStarting x s = true ↔ ∃ b r, presentPeer x s b = some r ∧ r.pumpState = .starting := by
  unfold peerStarting
  simp only [List.any_eq_true, List.mem_finRange, true_and]
  refine exists_congr fun b => ?_
  cases presentPeer x s b <;> simp

theorem ring_isEmpty (p : Pump) : p.ring.toList.all Option.isNone = true ↔ ∀ i : Fin 6, p.ring[i] = none := by
  simp [Fin.forall_iff]

/-- A start made: the state before the protective stop of its entry, if any (R132, R140). -/
def started (x : Ctx) (s : State) : State :=
  let t := recordStart (issuePulse x .start s)
  setPump x .starting { t with pump := { t.pump with cause := .none, feedbackTimer := ahead t (x.cfg.startTimeout * 1000) } }

theorem enterStarting_eq (x : Ctx) (s : State) : enterStarting x s = protectOnEntry x (started x s) := rfl

theorem started_pump (x : Ctx) (s : State) : (started x s).pump.cause = .none ∧
    (started x s).pump.ring = s.pump.ring.set s.pump.pointer (some s.clock) ∧ (started x s).pump.pointer = s.pump.pointer + 1 ∧
    (started x s).pump.ageTimer = (if ∀ i : Fin 6, s.pump.ring[i] = none then some (s.clock + ms 3600000) else s.pump.ageTimer) ∧
    (started x s).pump.guardTimer = s.pump.guardTimer ∧ (started x s).pump.minStopTimer = s.pump.minStopTimer := by
  have hage := ring_isEmpty s.pump
  simp only [started, setPump_pump_fields, recordStart, issuePulse_pump, issuePulse_frame, hage]
  refine ⟨trivial, trivial, trivial, ?_, trivial, trivial⟩
  exact if_congr Iff.rfl rfl rfl

theorem started_starting (x : Ctx) (s : State) : (started x s).pump.state = .starting ∧ (started x s).pump.pulse = some .start ∧
    (started x s).pump.pulseTimer = some (s.clock + ms (x.cfg.startPulse * 100)) ∧
    (started x s).pump.feedbackTimer = some (s.clock + ms (x.cfg.startTimeout * 1000)) := by
  simp [started, recordStart, ahead]

theorem started_begins (x : Ctx) {s : State} (h : countedRunning s = false) : (started x s).fouling.runningMark = true ∧
    (started x s).fouling.settleTimer = some (s.clock + ms (x.cfg.settleTime * 1000)) ∧
    (started x s).pump.minuteTimer = some (s.clock + ms (60000 - s.pump.minuteAcc)) := by
  unfold started
  refine setPump_begins ?_ ?_
  · exact h
  · simp [countsRunning]

theorem started_held (x : Ctx) {s : State} (h : s.pump.state ≠ .starting) (hm : s.link.tx ≠ .mute) :
    Held .status (started x s) := by
  unfold started
  refine setPump_held ?_ ?_
  · exact h
  · exact hm

@[simp] theorem started_blocks (x : Ctx) (s : State) : (started x s).conds.suctionLow = s.conds.suctionLow ∧
    (started x s).conds.screenBlocked = s.conds.screenBlocked := by
  simp [started, recordStart]

/-- A protective stop keeps the start ring, the cause, the guard and min_stop. -/
@[simp] theorem protectOnEntry_pump_kept (x : Ctx) (s : State) : (protectOnEntry x s).pump.cause = s.pump.cause ∧
    (protectOnEntry x s).pump.ring = s.pump.ring ∧ (protectOnEntry x s).pump.pointer = s.pump.pointer ∧
    (protectOnEntry x s).pump.ageTimer = s.pump.ageTimer ∧ (protectOnEntry x s).pump.guardTimer = s.pump.guardTimer ∧
    (protectOnEntry x s).pump.minStopTimer = s.pump.minStopTimer := by
  unfold protectOnEntry enterStopping
  split <;> simp

/-- Settles O30. -/
theorem guardExpiryStartsThePump : Obligations.GuardExpiryStartsThePump := by
  intro s x d hx ht hd hp
  let u : State := { s with pump := { s.pump with guardTimer := none } }
  have hstep : exec .guardTimerExpiry s = .next (if peerStarting x u then withdrawStart x .stagger u else enterStarting x u) :=
    congrArg _ ((whenLive_due (T := fun s => s.pump.guardTimer) hx ht hd _).trans (if_pos hp))
  have hpeer : peerStarting x u = true ↔ ∃ b r, presentPeer x s b = some r ∧ r.pumpState = .starting := peerStarting_iff x s
  rw [hstep]
  cases hs : peerStarting x u
  · have hno : ¬∃ b r, presentPeer x s b = some r ∧ r.pumpState = .starting := fun h => by simp [hpeer.2 h] at hs
    obtain ⟨h1, h2, h3, h4, h5, h6⟩ := started_pump x u
    refine ⟨enterStarting x u, rfl, ?_, ?_, fun h => absurd h hno, fun _ => ⟨?_, ?_, ?_, ?_, fun hl hb => ?_, fun hb => ?_⟩,
      fun hm => ?_, ?_⟩
    · simpa [enterStarting_eq] using h5
    · simpa [enterStarting_eq] using h6
    · simpa [enterStarting_eq] using h1
    · simpa [enterStarting_eq] using h2
    · simpa [enterStarting_eq] using h3
    · simpa [enterStarting_eq] using h4
    · rw [enterStarting_eq, protectOnEntry_free x _ (by simpa [u] using hl) (by simpa [u] using hb)]
      obtain ⟨k1, k2, k3, k4⟩ := started_starting x u
      exact ⟨k1, k2, k3, k4, fun hr => started_begins x (by simp [u, countedRunning, countsRunning, hp, hr])⟩
    · rw [enterStarting_eq, protectOnEntry_stops x _ (by simpa [u] using hb)]
      exact enterStopping_state x _
    · exact ((protectOnEntry_told (w := false) x _).held (started_held x (s := u) (by simp [u, hp]) hm)).handedOver
    · apply State.eq_of_parts <;> simp [u]
  · refine ⟨withdrawStart x .stagger u, rfl, by simp [withdrawStart], by simp [withdrawStart, u],
      fun _ => ⟨by simp [withdrawStart], by simp [withdrawStart], by simp [withdrawStart, u], by simp [withdrawStart, u]⟩,
      fun h => absurd (hpeer.1 hs) h, fun hm => ?_, ?_⟩
    · exact (withdrawStart_held x u (by simp [u, hp]) hm).handedOver
    · apply State.eq_of_parts <;> simp [u]

/-! ### RUN -/

/-- RUN closed outside STARTING leaves the fouling monitor and the minute timer of a bay already counted running. -/
theorem runClosedInState_kept (x : Ctx) {s : State} (hn : s.pump.state ≠ .starting) (hc : countedRunning s = s.lines.run) :
    (runClosedInState x s).fouling = s.fouling ∧ (runClosedInState x s).pump.minuteTimer = s.pump.minuteTimer := by
  obtain ⟨hpump, hf, -⟩ := enterFailed_moves x hc
  have hm : (enterFailed x s).pump.minuteTimer = s.pump.minuteTimer := by rw [hpump]
  unfold runClosedInState
  split
  · exact ⟨hf, hm⟩
  · exact ⟨hf, hm⟩
  next hp => exact absurd hp hn
  all_goals exact ⟨rfl, rfl⟩

theorem runClosedInState_pump_kept (x : Ctx) (s : State) : (runClosedInState x s).pump.minStopTimer = s.pump.minStopTimer ∧
    (runClosedInState x s).pump.ring = s.pump.ring := by
  unfold runClosedInState
  split
  · simp [enterFailed]
  · simp [enterFailed]
  · simp [enterRunning]
  all_goals exact ⟨rfl, rfl⟩

/-- RUN opened outside STARTING and RUNNING leaves the fouling monitor, the run time and the loader to the end of counted running. -/
theorem runOpenedInState_kept (x : Ctx) {s : State} (h1 : s.pump.state ≠ .starting) (h2 : s.pump.state ≠ .running) :
    (runOpenedInState x s).fouling = s.fouling ∧ (runOpenedInState x s).pump.minuteTimer = s.pump.minuteTimer ∧
    (runOpenedInState x s).pump.runMinutes = s.pump.runMinutes ∧ (runOpenedInState x s).pump.minuteAcc = s.pump.minuteAcc ∧
    (runOpenedInState x s).loader = s.loader := by
  obtain ⟨hpump, hf, hl⟩ := enterStopped_moves x (countedRunning_of s h1 h2)
  unfold runOpenedInState
  split
  next hp => exact absurd hp h2
  · split
    · exact ⟨rfl, rfl, rfl, rfl, rfl⟩
    · exact ⟨hf, by rw [hpump], by rw [hpump], by rw [hpump], hl⟩
  all_goals exact ⟨rfl, rfl, rfl, rfl, rfl⟩

/-- Settles O33. -/
theorem runClosureIsFeedback : Obligations.RunClosureIsFeedback := by
  intro s hr
  refine ⟨fun hx => ?_, fun x hx => ?_⟩
  · simp only [exec, execRunCloses, hr, Bool.false_eq_true, if_false]
    exact congrArg _ (whenLive_lines_none hx _ _)
  let l : State := { s with lines := { s.lines with run := true } }
  let u : State := noteCounted x (countedRunning s) l
  have hcl : countedRunning l = true := by simp [l, countedRunning, countsRunning]
  have hcu : countedRunning u = u.lines.run := countedRunning_of_run u (by simp [u, l])
  have hst : u.pump.state = s.pump.state := by simp [u, l]
  have hpo := noteCounted_pumpOnly x (countedRunning s) l
  have hb1 : u.conds.suctionLow = s.conds.suctionLow := by simp [u, l]
  have hb2 : u.conds.screenBlocked = s.conds.screenBlocked := by simp [u, l]
  refine ⟨runClosedInState x u, ?_, by simp [u, l], fun h => ?_, fun h h1 h2 => ?_, fun h hb => ?_, fun h => ?_, fun h => ?_, ?_,
    ?_, ?_⟩
  · simp only [exec, execRunCloses, hr, Bool.false_eq_true, if_false]
    exact congrArg _ (whenLive_lines hx _ _)
  · have he : runClosedInState x u = enterFailed x u := by
      rcases h with h | h <;> simp [runClosedInState, hst, h]
    rw [he, enterFailed_conds x u (by rcases h with h | h <;> simp [hst, h])]
    simp [enterFailed]
  · have hu : u = l := if_pos (hcl.trans (by simp [countedRunning, countsRunning, h]))
    have he : runClosedInState x u = enterRunning x u := by simp [runClosedInState, hst, h]
    obtain ⟨hpump, hf, -⟩ := setPump_counted_same (x := x) (p := .running) (s := { l with pump := { l.pump with
      feedbackTimer := none, minRunTimer := ahead l (x.cfg.minRun * 60000) } }) (by simp [l, countedRunning, countsRunning])
    rw [he, hu, enterRunning, protectOnEntry_free x _ (by simpa [l] using h1) (by simpa [l] using h2), hpump, hf]
    exact ⟨rfl, rfl, rfl, rfl, rfl, rfl⟩
  · have he : runClosedInState x u = enterRunning x u := by simp [runClosedInState, hst, h]
    rw [he, enterRunning, protectOnEntry_stops x _ (by simpa [hb1, hb2] using hb)]
    exact enterStopping_state x _
  · have he : runClosedInState x u = u := by rcases h with h | h | h | h | h <;> simp [runClosedInState, hst, h]
    rw [he]
    simp [u, l]
  · obtain ⟨k1, k2, k3⟩ := noteCounted_begins (x := x) hcl
    have hn : u.pump.state ≠ .starting := by
      rw [hst]
      intro hp
      simp [countedRunning, countsRunning, hp] at h
    obtain ⟨m1, m2⟩ := runClosedInState_kept x hn hcu
    rw [m1, m2]
    simp only [u, h]
    exact ⟨k1, k2, k3⟩
  · rw [(runClosedInState_pump_kept x u).1]
    simp [u, l]
  · rw [(runClosedInState_pump_kept x u).2]
    simp [u, l]
  · apply State.eq_of_parts <;> simp [u, l]

theorem runOpenedInState_ring (x : Ctx) (s : State) : (runOpenedInState x s).pump.ring = s.pump.ring := by
  unfold runOpenedInState
  split
  · simp [enterFailed]
  · split <;> simp [enterStopped]
  all_goals rfl

/-- The run-minute count has risen by one at the most. -/
def MinuteMore (s t : State) : Prop := s.pump.runMinutes ≤ t.pump.runMinutes ∧ t.pump.runMinutes ≤ s.pump.runMinutes + 1

theorem stopMinutes_minuteMore (s : State) : MinuteMore s (stopMinutes s) := by
  refine ⟨stopMinutes_runMinutes_le s, ?_⟩
  unfold stopMinutes
  split
  · dsimp only
    split
    · rw [addMinute_runMinutes]
      exact min_le_left _ _
    · exact Nat.le_succ _
  · exact Nat.le_succ _

theorem noteCounted_minuteMore (x : Ctx) (was : Bool) (s : State) : MinuteMore s (noteCounted x was s) := by
  refine ⟨noteCounted_runMinutes_le x was s, ?_⟩
  unfold noteCounted countedChanged
  dsimp only
  split_ifs
  · exact Nat.le_succ _
  · exact Nat.le_succ _
  · simpa using (stopMinutes_minuteMore { s with fouling := { s.fouling with
      runningMark := countedRunning s, settleTimer := ahead s (x.cfg.settleTime * 1000) } }).2

theorem setPump_minuteMore (x : Ctx) (p : PumpState) (s : State) : MinuteMore s (setPump x p s) := by
  refine ⟨setPump_runMinutes_le x p s, ?_⟩
  by_cases h : s.pump.state = p
  · rw [setPump_same h]
    exact Nat.le_succ _
  · obtain ⟨t, -, -, -, -, hpump, h1, -, -⟩ := setPump_counted (x := x) h
    rw [h1]
    exact (noteCounted_minuteMore x (countedRunning s) t).2.trans_eq (by rw [hpump])

/-- Settles O34. -/
theorem runOpeningEndsTheFeedback : Obligations.RunOpeningEndsTheFeedback := by
  intro s hr
  refine ⟨fun hx => ?_, fun x hx => ?_⟩
  · simp only [exec, execRunOpens, hr, if_true]
    exact congrArg _ (whenLive_lines_none hx _ _)
  let l : State := { s with lines := { s.lines with run := false } }
  let u : State := noteCounted x (countedRunning s) l
  have hcs : countedRunning s = true := by simp [countedRunning, countsRunning, hr]
  have hst : u.pump.state = s.pump.state := by simp [u, l]
  have hstep : exec .runOpens s = .next (runOpenedInState x u) := by
    simp only [exec, execRunOpens, hr, if_true]
    exact congrArg _ (whenLive_lines hx _ _)
  /- RUNNING and STARTING count as running without the contact; elsewhere its opening ends counted running. -/
  have hkept (h : s.pump.state = .starting ∨ s.pump.state = .running) : u = l := by
    refine if_pos (Eq.trans ?_ hcs.symm)
    rcases h with h | h <;> simp [l, countedRunning, countsRunning, h]
  have hends : s.pump.state ≠ .starting → (runOpenedInState x u).fouling = { s.fouling with
      runningMark := false, settleTimer := some (s.clock + ms (x.cfg.settleTime * 1000)) } ∧ CountEnds s (runOpenedInState x u) := by
    intro hn
    by_cases hp : s.pump.state = .running
    · rw [hkept (.inr hp)]
      have he : runOpenedInState x l = enterFailed x l := by simp [runOpenedInState, l, hp]
      obtain ⟨k1, k2⟩ := setPump_ends (x := x) (p := .failed) (s := stopSupervision l) (by simp [l, countedRunning, countsRunning, hp])
        (by simp [l, countsRunning])
      rw [he]
      exact ⟨k2, k1.congr rfl rfl rfl rfl rfl rfl rfl rfl⟩
    · have hcl : countedRunning l = false := by simp [l, countedRunning, countsRunning, hn, hp]
      obtain ⟨k1, k2⟩ := noteCounted_ends (x := x) hcl
      obtain ⟨m1, m2, m3, m4, m5⟩ := runOpenedInState_kept x (s := u) (by simpa [hst] using hn) (by simpa [hst] using hp)
      have hu : u = noteCounted x true l := by simp only [u, hcs]
      rw [← hu] at k1 k2
      exact ⟨m1.trans k2, k1.congr rfl rfl rfl rfl m2 m3 m4 m5⟩
  have hmore : MinuteMore s (runOpenedInState x u) := by
    by_cases hp : s.pump.state = .running
    · rw [hkept (.inr hp)]
      have he : runOpenedInState x l = enterFailed x l := by simp [runOpenedInState, l, hp]
      rw [he]
      exact setPump_minuteMore x .failed (stopSupervision l)
    · have hu : MinuteMore l u := noteCounted_minuteMore x (countedRunning s) l
      by_cases hn : s.pump.state = .starting
      · have he : runOpenedInState x u = u := by simp [runOpenedInState, hst, hn]
        rw [he]
        exact hu
      · obtain ⟨-, -, m3, -, -⟩ := runOpenedInState_kept x (s := u) (by simpa [hst] using hn) (by simpa [hst] using hp)
        exact ⟨hu.1.trans_eq m3.symm, m3.trans_le hu.2⟩
  refine ⟨runOpenedInState x u, hstep, by simp [u, l], fun h => ?_, fun h hp => ?_, fun h hp => ?_, fun h1 h2 => ?_, fun h => ?_,
    fun h => ?_, ?_, ?_, ?_, ?_⟩
  · have he : runOpenedInState x u = enterFailed x u := by simp [runOpenedInState, hst, h]
    rw [he, enterFailed_conds x u (by simp [hst, h])]
    simp [enterFailed]
  · have he : runOpenedInState x u = u := by simp [runOpenedInState, hst, h, show u.pump.pulse = some .stop by simpa [u, l] using hp]
    rw [he]
    exact ⟨hst.trans h, by simp [u, l]⟩
  · have he : runOpenedInState x u = enterStopped x u := by
      simp [runOpenedInState, hst, h, show ¬u.pump.pulse = some .stop by simpa [u, l] using hp]
    rw [he]
    simp [enterStopped, ahead, u, l]
  · have he : runOpenedInState x u = u := by
      unfold runOpenedInState
      rw [hst]
      cases hp : s.pump.state <;> simp_all
    rw [he]
    exact ⟨hst, by simp [u, l], by simp [u, l]⟩
  · obtain ⟨k1, k2, k3, k4⟩ := hends h
    exact ⟨k1, k2, k3, k4⟩
  · have he : runOpenedInState x u = u := by simp [runOpenedInState, hst, h]
    rw [he, hkept (.inl h)]
  · exact hmore.1
  · exact hmore.2
  · rw [runOpenedInState_ring]
    simp [u, l]
  · apply State.eq_of_parts <;> simp [u, l]

end Sys2Proof.Machine
end

section
/-! PROOF. The link interface and the record write, command by command: the statements O42, O43, O46 and O48. -/

namespace Sys2Proof.Machine

set_option Elab.async false

/-! ### The receiver -/

/-- A link moved leaves the station at work, or at rest. -/
theorem whenLive_link {s : State} {x : Ctx} (hx : ctx? s = some x) (l : Link) (act : Ctx → State → State) :
    whenLive { s with link := l } act = act x { s with link := l } := whenLive_of (s := { s with link := l }) hx act

theorem whenLive_link_none {s : State} (hx : ctx? s = none) (l : Link) (act : Ctx → State → State) :
    whenLive { s with link := l } act = { s with link := l } := whenLive_none (s := { s with link := l }) hx act

/-- A command that brings a frame finds none in WAIT IDLE (log 8). -/
theorem hearFrame_waitIdle {kind : Byte} {f : Frame} {s : State} (h : s.link.receiver = .waitIdle) (act : Ctx → State → State) :
    hearFrame kind f s act = s := by
  simp [hearFrame, h]

/-- The own frame heard in SEND, an invalid one, and any outside the station's work are handed to no block (R156). -/
theorem hearFrame_discards {kind : Byte} {f : Frame} {s : State} (hr : s.inReset = false) (hw : s.link.receiver ≠ .waitIdle)
    (h : s.link.tx = .send ∨ ctx? s = none ∨ frameValid f = false) (act : Ctx → State → State) :
    hearFrame kind f s act = { s with link := { s.link with receiver := .waitIdle } } := by
  unfold hearFrame
  rw [if_neg (by simp [hr, hw])]
  dsimp only
  rcases h with h | h | h
  · rw [if_neg (by simp [h])]
  · rw [whenLive_link_none h, ite_self]
  · rw [if_neg (by simp [h])]

/-- A valid frame of its kind, heard outside SEND, is handed on with the receiver in WAIT IDLE (R155). -/
theorem hearFrame_takes {kind : Byte} {f : Frame} {s : State} {x : Ctx} (hx : ctx? s = some x) (hw : s.link.receiver ≠ .waitIdle)
    (hs : s.link.tx ≠ .send) (hf : frameValid f = true) (hk : f.kind = kind) (act : Ctx → State → State) :
    hearFrame kind f s act = act x { s with link := { s.link with receiver := .waitIdle } } := by
  unfold hearFrame
  rw [if_neg (by simp [inReset_of_ctx hx, hw])]
  dsimp only
  rw [if_pos (by simp [hs, hf, hk]), whenLive_link hx]

/-- Settles O46. -/
theorem receiverFindsTheFrames : Obligations.ReceiverFindsTheFrames := by
  intro s waits
  refine ⟨fun hr h => ?_, fun h => ?_, rfl, fun f => rfl, fun h => ?_, fun h => ?_, fun f c hc => ⟨fun h => ?_, fun hr hw h => ?_⟩⟩
  · simp [exec, execReceiverArmed, hr, h]
  · simp [exec, execReceiverArmed, h]
  · simp [exec, execNonSyncCharacter, h, waits]
  · simp [exec, execNonSyncCharacter, h]
  · rcases hc with rfl | rfl | rfl | rfl
    all_goals exact congrArg _ (hearFrame_waitIdle h _)
  · rcases hc with rfl | rfl | rfl | rfl
    all_goals exact congrArg _ (hearFrame_discards hr hw h _)

/-! ### The record write -/

/-- Settles O48. -/
theorem recordWriteRunsItsStates : Obligations.RecordWriteRunsItsStates := by
  intro s x hx count
  refine ⟨fun h => ?_, fun h => ?_, fun d ht hd => ?_, fun status hw hspi => ⟨fun hbit hlt => ?_, fun hend => ?_⟩⟩
  · exact congrArg _ ((whenLive_of hx _).trans (if_pos h))
  · exact congrArg _ ((whenLive_of hx _).trans (if_pos h))
  · exact congrArg _ (whenLive_due (T := fun s => s.loader.pollTimer) hx ht hd _)
  all_goals
    have hstep : exec (.readStatusDone status) s = .next (pollResult status s) :=
      congrArg _ ((whenLive_of hx _).trans (if_pos (by simp [hw, hspi])))
    rw [hstep]
  · have hn : ¬50 ≤ s.loader.pollCount + 1 := by omega
    simp [pollResult, hbit, hn]
  · obtain ⟨n, p, hp⟩ : ∃ n p, pollResult status s = endWrite { s with loader := { s.loader with pollCount := n, spi := p } } := by
      unfold pollResult
      cases hb : status.getLsbD 0
      · exact ⟨s.loader.pollCount, s.loader.spi, by simp⟩
      · have hn : 50 ≤ s.loader.pollCount + 1 := hend.resolve_left (by simp only [hb, Bool.true_eq_false, not_false_eq_true])
        exact ⟨s.loader.pollCount + 1, none, by simp [hn]⟩
    refine ⟨_, rfl, ?_⟩
    rw [hp]
    cases hpend : s.loader.writePending <;> simp [endWrite, hpend, beginWrite]

/-! ### The STATUS timer -/

/-- The whole milliseconds of 2000 character times, either way rounded (R153; log 7). -/
theorem accessLimitMs_cases (c : Settings) : accessLimitMs c =
    (if c.linkRate = 0 then 1041 else if c.linkRate = 1 then 520 else 260) ∨ accessLimitMs c =
    (if c.linkRate = 0 then 1041 else if c.linkRate = 1 then 520 else 260) + 1 := by
  unfold accessLimitMs
  dsimp only
  cases Config.accessRoundsUp c.linkRate
  · exact .inl rfl
  · exact .inr rfl

/-- Settles O42. -/
theorem statusTimerOffersAStatus : Obligations.StatusTimerOffersAStatus := by
  intro s x d hx ht hd next
  have hlimit := accessLimitMs_cases x.cfg
  let armed : State := { s with link := { s.link with statusTimer := next } }
  have hstep : exec .statusTimerExpiry s = .next (offer x .status armed) :=
    congrArg _ (whenLive_due (T := fun s => s.link.statusTimer) hx ht hd _)
  rw [hstep]
  refine ⟨fun h => ?_, fun h => ?_, fun h => ?_, fun h => ?_, fun h hq => ?_, fun h1 h2 hq => ?_⟩
  · simpa [h] using hlimit
  · simpa [h] using hlimit
  · simpa [h] using hlimit
  · refine congrArg _ (h.elim (fun h => ?_) fun h => ?_)
    · exact offer_mute (s := armed) h
    · exact offer_status_waiting (s := armed) h
  · rw [offer_idle (s := armed) h hq]
    dsimp only
    rw [hq]
    rfl
  · exact congrArg _ (offer_busy (s := armed) h1 h2 fun _ => hq)

/-! ### An attempt -/

@[simp] theorem encodeReport_length (r : Report) : (encodeReport r).length = 23 := by
  simp [encodeReport, bytesInt16, bytes16]

/-- The characters of a frame: SYNC, what the CRC covers, and the CRC, high byte first (11.8). -/
theorem frameBytes_eq (kind bay : Byte) (payload : List Byte) : frameBytes kind bay payload =
    0x5A#8 :: (kind :: bay :: byte payload.length :: payload) ++
      [byte ((crc (kind :: bay :: byte payload.length :: payload)).toNat / 256),
       byte (crc (kind :: bay :: byte payload.length :: payload)).toNat] := rfl

/-- Settles O43. -/
theorem attemptTakesThePresentValues : Obligations.AttemptTakesThePresentValues := by
  intro s x hx
  refine ⟨fun h => ?_, fun h htx hh => ?_⟩
  · refine congrArg _ ((whenLive_of hx _).trans ?_)
    split
    next hd _ => exact absurd hd h
    next => rfl
  · have hstep : exec .attemptBegin s = .next { s with link := { s.link with
        tx := .send, accessTimer := none, receiver := .armed, inHand := some { h with bytes := ownFrameBytes x s h.frame } } } := by
      simp [exec, execAttemptBegin, whenLive_of hx, htx, hh]
    cases hf : h.frame with
    | status =>
      refine ⟨_, _, hf ▸ hstep, frameBytes_eq _ _ _, encodeReport (ownReport x s), ?_, encodeReport_length _, rfl⟩
      rw [encodeReport_length]
      rfl
    | claim tag k n =>
      refine ⟨_, _, hf ▸ hstep, frameBytes_eq _ _ _, ?_⟩
      cases k <;> rfl
    | release tag =>
      refine ⟨_, _, hf ▸ hstep, frameBytes_eq _ _ _, ?_⟩
      rfl

end Sys2Proof.Machine
end

section
/-! PROOF. The drive and the wash, operation by operation: what a choice of the drive does to the shaft capture and the stall window, what
a change of wash state hands over, and what a wash so begun comes to. -/

namespace Sys2Proof.Machine

set_option Elab.async false

/-! ### The transmit queue of a busy transmitter -/

/-- A busy transmitter keeps its state while the blocks tell it more. -/
theorem Told.tx_kept {x : Ctx} {w : Bool} {s t : State} (h : Told x w s t) (hi : s.link.tx ≠ .idle) : t.link.tx = s.link.tx := by
  have offered (f : TxFrame) (s : State) (hi : s.link.tx ≠ .idle) : (Machine.offer x f s).link.tx = s.link.tx := by
    by_cases hm : s.link.tx = .mute
    · rw [offer_mute hm]
    by_cases hf : f = .status ∧ TxFrame.status ∈ s.link.queue
    · rw [hf.1, offer_status_waiting hf.2]
    · rw [offer_busy hm hi fun h1 h2 => hf ⟨h1, h2⟩]
  induction h with
  | quiet _ _ h => exact h
  | offer f s => exact offered f s hi
  | cond a v s _ =>
    rcases setCond_link x a v s with hl | ⟨u, hu, hl⟩
    · rw [hl]
    · rw [hl, offered .status u (by rw [hu]; exact hi), hu]
  | acked | cancel => rfl
  | trans _ _ ih1 ih2 =>
    have h1 := ih1 hi
    rw [ih2 (by rw [h1]; exact hi), h1]

/-- A frame that waits goes on waiting while a busy transmitter is offered another. -/
theorem mem_queue_offer {x : Ctx} {f g : TxFrame} {s : State} (hi : s.link.tx ≠ .idle) (h : f ∈ s.link.queue) :
    f ∈ (offer x g s).link.queue := by
  by_cases hm : s.link.tx = .mute
  · rwa [offer_mute hm]
  by_cases hg : g = .status ∧ TxFrame.status ∈ s.link.queue
  · rw [hg.1, offer_status_waiting hg.2]; exact h
  · rw [offer_busy hm hi fun h1 h2 => hg ⟨h1, h2⟩]; simp [h]

/-- A frame offered to a busy transmitter waits. -/
theorem mem_queue_offered {x : Ctx} {f : TxFrame} {s : State} (hi : s.link.tx ≠ .idle) (hm : s.link.tx ≠ .mute) :
    f ∈ (offer x f s).link.queue := by
  by_cases hf : f = .status ∧ TxFrame.status ∈ s.link.queue
  · rw [hf.1, offer_status_waiting hf.2]; exact hf.2
  · rw [offer_busy hm hi fun h1 h2 => hf ⟨h1, h2⟩]; simp

theorem Told.mem_queue {x : Ctx} {s t : State} {f : TxFrame} (h : Told x false s t) (hi : s.link.tx ≠ .idle)
    (hf : f ∈ s.link.queue) : f ∈ t.link.queue := by
  induction h with
  | quiet _ _ _ _ hq => rw [hq]; exact hf
  | offer g s => exact mem_queue_offer hi hf
  | cond a v s _ =>
    rcases setCond_link x a v s with hl | ⟨u, hu, hl⟩
    · rw [hl]; exact hf
    · rw [hl]; exact mem_queue_offer (by rw [hu]; exact hi) (by rw [hu]; exact hf)
  | acked => exact hf
  | cancel p s h => cases h
  | trans h1 _ ih1 ih2 => exact ih2 (by rw [h1.tx_kept hi]; exact hi) (ih1 hi hf)

/-- Outside MUTE, what the blocks tell leaves MUTE out. -/
theorem Told.not_mute {x : Ctx} {w : Bool} {s t : State} (h : Told x w s t) (hm : s.link.tx ≠ .mute) : t.link.tx ≠ .mute := by
  induction h with
  | quiet _ _ h => rwa [h]
  | offer f s => exact offer_tx_ne_mute hm
  | cond a v s _ =>
    rcases setCond_link x a v s with hl | ⟨u, hu, hl⟩
    · rwa [hl]
    · rw [hl]; exact offer_tx_ne_mute (by rwa [hu])
  | acked | cancel => exact hm
  | trans _ _ ih1 ih2 => exact ih2 (ih1 hm)

/-! ### The drive -/

/-- The part of the screen controller that a choice of the drive moves. -/
def driveParts (c : Screen) : Drive × Timer × Nat × Option Clock × Nat := (c.drive, c.stallTimer, c.prescale, c.lastCapture, c.period)

theorem driveMoves_congr {x : Ctx} {s s' t t' : State} (h : driveMoves x s t) (hc : s'.clock = s.clock)
    (hs : driveParts s'.screen = driveParts s.screen) (ht : driveParts t'.screen = driveParts t.screen) : driveMoves x s' t' := by
  simp only [driveParts, Prod.mk.injEq] at hs ht
  obtain ⟨s1, s2, s3, s4, s5⟩ := hs
  obtain ⟨t1, t2, t3, t4, t5⟩ := ht
  unfold driveMoves at *
  rw [hc, s1, s2, s3, s4, s5, t1, t2, t3, t4, t5]
  exact h

theorem driveMoves_refl (x : Ctx) (s : State) : driveMoves x s s := by
  simp +contextual [driveMoves]

theorem setDrive_moves (x : Ctx) (d : Drive) (s : State) : driveMoves x s (setDrive x d s) := by
  have hwindow : stallWindowMs x.cfg d = (if d = .fast then x.cfg.stallFast else x.cfg.stallSlow) * 100 := by cases d <;> rfl
  unfold setDrive
  by_cases h1 : d = s.screen.drive
  · rw [if_pos h1]
    exact driveMoves_refl x s
  rw [if_neg h1]
  have h1' : s.screen.drive ≠ d := fun e => h1 e.symm
  by_cases h2 : d = .off
  · subst h2
    simp [driveMoves, h1, h1']
  rw [if_neg h2]
  by_cases h3 : s.screen.drive = .off
  · rw [if_pos h3]
    simp [driveMoves, h2, h3, ahead, hwindow]
  · rw [if_neg h3]
    simp [driveMoves, h1, h2, h3, ahead, hwindow]

/-- A choice of the drive moves the shaft capture and the stall window with it (R104 to R106). -/
theorem selectDrive_moves (x : Ctx) (s : State) : driveMoves x s (selectDrive x s) := setDrive_moves x _ s

/-- A drive already the one chosen stands. -/
theorem selectDrive_same {x : Ctx} {s : State} (h : s.screen.drive = driveChoice s) : selectDrive x s = s := by
  simp [selectDrive, setDrive, h]

theorem setWash_same {x : Ctx} {w : WashState} {s : State} (h : s.screen.wash = w) : setWash x w s = s := by
  simp [setWash, h]

/-- A change of wash state, with its drive and its STATUS (R103, R109). -/
theorem setWash_ne {x : Ctx} {w : WashState} {s : State} (h : s.screen.wash ≠ w) :
    setWash x w s = offerStatus x (selectDrive x { s with screen := { s.screen with wash := w } }) := by
  simp [setWash, h]

theorem setWash_moves (x : Ctx) (w : WashState) (s : State) : driveMoves x s (setWash x w s) := by
  by_cases h : s.screen.wash = w
  · rw [setWash_same h]; exact driveMoves_refl x s
  · rw [setWash_ne h]
    exact driveMoves_congr (selectDrive_moves x { s with screen := { s.screen with wash := w } }) rfl rfl (by simp)

/-- A change of wash state hands a STATUS over (R109). -/
theorem setWash_held {x : Ctx} {w : WashState} {s : State} (h : s.screen.wash ≠ w) (hm : s.link.tx ≠ .mute) :
    Held .status (setWash x w s) := by
  rw [setWash_ne h]
  exact held_offer (by simpa using hm)

/-- Of a busy transmitter, the STATUS of a change of wash state waits. -/
theorem setWash_queued {x : Ctx} {w : WashState} {s : State} (h : s.screen.wash ≠ w) (hi : s.link.tx ≠ .idle) (hm : s.link.tx ≠ .mute) :
    TxFrame.status ∈ (setWash x w s).link.queue := by
  rw [setWash_ne h]
  exact mem_queue_offered (by simpa using hi) (by simpa using hm)

/-! ### The RELEASE of a wash -/

section
variable {x : Ctx} {s : State}

theorem releaseClaim_screen : (releaseClaim x s).screen.wash = .releasing ∧ (releaseClaim x s).screen.tag = s.screen.tag ∧
    (releaseClaim x s).screen.cls = s.screen.cls ∧ (releaseClaim x s).screen.completed = s.screen.completed ∧
    (releaseClaim x s).screen.working = s.screen.working ∧ (releaseClaim x s).screen.cycleCount = 0 ∧
    (releaseClaim x s).screen.cycleTimer = none ∧ (releaseClaim x s).screen.headerTimer = none ∧
    (releaseClaim x s).screen.retryTimer = s.screen.retryTimer ∧ (releaseClaim x s).screen.gapTimer = s.screen.gapTimer ∧
    (releaseClaim x s).screen.intervalTimer = s.screen.intervalTimer ∧
    (releaseClaim x s).screen.intervalDue = s.screen.intervalDue ∧ (releaseClaim x s).screen.spray = false := by
  simp [releaseClaim, stopWashing]

theorem releaseClaim_drive (h : s.screen.wash ≠ .releasing) :
    (releaseClaim x s).screen.drive = driveChoice (releaseClaim x s) := by
  unfold releaseClaim
  exact setWash_drive (by simpa [stopWashing] using h)

theorem releaseClaim_moves : driveMoves x s (releaseClaim x s) := by
  unfold releaseClaim
  exact driveMoves_congr (setWash_moves x .releasing _) (by simp) (by simp [driveParts, stopWashing]) rfl

/-- The RELEASE of the claim tag is handed over (R97, R98). -/
theorem releaseClaim_held (hm : s.link.tx ≠ .mute) : Held (.release s.screen.tag) (releaseClaim x s) := by
  unfold releaseClaim
  exact (setWash_told x _ .releasing).held (held_offer (by simpa [stopWashing] using hm))

theorem releaseClaim_queued (hi : s.link.tx ≠ .idle) (hm : s.link.tx ≠ .mute) :
    .release s.screen.tag ∈ (releaseClaim x s).link.queue := by
  have hi' : (stopWashing s).link.tx ≠ .idle := by simpa [stopWashing] using hi
  unfold releaseClaim
  refine (setWash_told x _ .releasing).mem_queue ?_ (mem_queue_offered hi' (by simpa [stopWashing] using hm))
  rw [(Told.offer (x := x) (w := true) (.release s.screen.tag) (stopWashing s) (.inl rfl)).tx_kept hi']
  exact hi'

/-! ### A wash begun or resumed -/

theorem freshCycle_screen : (freshCycle x s).screen.wash = s.screen.wash ∧ (freshCycle x s).screen.completed = s.screen.completed ∧
    (freshCycle x s).screen.working = s.screen.working ∧ (freshCycle x s).screen.cycleCount = 0 ∧
    (freshCycle x s).screen.cycleTimer = s.screen.cycleTimer ∧
    (freshCycle x s).screen.spray = (s.screen.spray || decide (s.screen.working.sprayPoint = 0)) ∧
    driveParts (freshCycle x s).screen = driveParts s.screen ∧ (freshCycle x s).screen.tag = s.screen.tag ∧
    (freshCycle x s).screen.cls = s.screen.cls ∧ (freshCycle x s).screen.gapTimer = s.screen.gapTimer ∧
    (freshCycle x s).screen.intervalTimer = s.screen.intervalTimer ∧ (freshCycle x s).screen.intervalDue = s.screen.intervalDue := by
  unfold freshCycle sprayOn
  dsimp only
  split_ifs <;> simp [driveParts, *]

/-- The state in which a wash begins, before the first compare (R95, R96, R101). -/
def washLoaded (x : Ctx) (s : State) : State := loadWorking x (startCycleTimer (setWash x .washing s))

theorem enterWashing_eq (x : Ctx) (s : State) : enterWashing x s = continueWash x (washLoaded x s) := rfl

theorem washLoaded_screen : (washLoaded x s).screen.wash = .washing ∧ (washLoaded x s).screen.tag = s.screen.tag ∧
    (washLoaded x s).screen.completed = s.screen.completed ∧ (washLoaded x s).screen.working = washSetInForce x.cfg s ∧
    (washLoaded x s).screen.cycleTimer = some (s.clock + ms 100) ∧ (washLoaded x s).screen.spray = s.screen.spray ∧
    driveParts (washLoaded x s).screen = driveParts (setWash x .washing s).screen := by
  simp [washLoaded, startCycleTimer, ahead, driveParts, washSetInForce]

theorem washLoaded_told {w : Bool} : Told x w s (washLoaded x s) :=
  .before (setWash_told x s .washing) rfl rfl rfl

theorem continueWash_complete (h : s.screen.working.cycles ≤ s.screen.completed) : continueWash x s = releaseClaim x s := by
  simp [continueWash, washComplete, h]

theorem continueWash_next (h : s.screen.completed < s.screen.working.cycles) : continueWash x s = freshCycle x s := by
  simp [continueWash, washComplete, h]

theorem freshCycle_driveChoice : driveChoice (freshCycle x s) = driveChoice s := by
  apply driveChoice_congr <;> simp [freshCycle_screen]

/-- A new own standing in range begins the wash (R95, R96, R101). -/
theorem enterWashing_starts (hw : s.screen.wash ≠ .washing) : washStarts x s (enterWashing x s) := by
  obtain ⟨h1, h2, h3, h4, h5, h6, h7⟩ := washLoaded_screen (x := x) (s := s)
  have hdrive : (washLoaded x s).screen.drive = driveChoice (washLoaded x s) := by
    have hd : (washLoaded x s).screen.drive = (setWash x .washing s).screen.drive := congrArg Prod.fst h7
    rw [hd, setWash_drive hw]
    apply driveChoice_congr <;> simp [washLoaded, startCycleTimer]
  rw [enterWashing_eq]
  by_cases hc : s.screen.completed < (washSetInForce x.cfg s).cycles
  · obtain ⟨f1, f2, f3, f4, f5, f6, f7, -⟩ := freshCycle_screen (x := x) (s := washLoaded x s)
    rw [continueWash_next (by rwa [h3, h4])]
    refine ⟨f2.trans h3, f3.trans h4, f4, ?_, fun _ => ⟨f1.trans h1, f5.trans h5, ?_, ?_⟩, fun hn => absurd hc (not_lt.2 hn)⟩
    · exact (congrArg Prod.fst f7).trans (hdrive.trans freshCycle_driveChoice.symm)
    · exact driveMoves_congr (setWash_moves x .washing s) rfl rfl (f7.trans h7)
    · rw [f6, h6, h4]
  · have hc' := not_lt.1 hc
    obtain ⟨r1, -, -, r2, r3, r4, r5, -, -, -, -, -, r6⟩ := releaseClaim_screen (x := x) (s := washLoaded x s)
    rw [continueWash_complete (by rwa [h3, h4])]
    refine ⟨r2.trans h3, r3.trans h4, r4, releaseClaim_drive (by simp [h1]), fun hn => absurd hn hc, fun _ => ⟨r1, r5, r6, fun hm => ?_⟩⟩
    have hheld := releaseClaim_held (x := x) ((washLoaded_told (x := x) (w := false)).not_mute hm)
    rw [h2] at hheld
    exact hheld.handedOver

/-- The RELEASE of a wash complete as it begins waits at a busy transmitter. -/
theorem enterWashing_queued (hi : s.link.tx ≠ .idle) (hm : s.link.tx ≠ .mute)
    (hc : (washSetInForce x.cfg s).cycles ≤ s.screen.completed) : .release s.screen.tag ∈ (enterWashing x s).link.queue := by
  obtain ⟨-, h2, h3, h4, -⟩ := washLoaded_screen (x := x) (s := s)
  have ht := (washLoaded_told (x := x) (s := s) (w := false)).tx_kept hi
  rw [enterWashing_eq, continueWash_complete (by rwa [h3, h4]), ← h2]
  exact releaseClaim_queued (by rwa [ht]) (by rwa [ht])

end

/-- A start of a wash is told by the screen controller and the frames handed over alone. -/
theorem washStarts_congr {x : Ctx} {s s' t t' : State} (h : washStarts x s t) (hclock : s'.clock = s.clock) (hscreen : s'.screen = s.screen)
    (hsurge : s'.conds.surge = s.conds.surge) (ht : t'.screen = t.screen) (hd : driveChoice t' = driveChoice t)
    (hf : s.screen.completed < (washSetInForce x.cfg s).cycles ∨ s'.link.tx = .mute ∨ handedOver (.release s.screen.tag) t') :
    washStarts x s' t' := by
  have hset : washSetInForce x.cfg s' = washSetInForce x.cfg s := by simp [washSetInForce, hsurge]
  obtain ⟨h1, h2, h3, h4, h5, h6⟩ := h
  unfold washStarts
  rw [hscreen, hset, ht, hd, hclock]
  refine ⟨h1, h2, h3, h4, fun hc => ?_, fun hc => ?_⟩
  · obtain ⟨k1, k2, k3, k4⟩ := h5 hc
    exact ⟨k1, k2, driveMoves_congr k3 hclock (by rw [hscreen]) (by rw [ht]), k4⟩
  · obtain ⟨k1, k2, k3, -⟩ := h6 hc
    exact ⟨k1, k2, k3, fun hm => (hf.resolve_left (not_lt.2 hc)).resolve_left hm⟩

end Sys2Proof.Machine
end

section
/-! PROOF. The end of a frame and the failed attempt: the statements O44 and O45. -/

namespace Sys2Proof.Machine

set_option Elab.async false

/-! ### A change of the claim list -/

section
variable {x : Ctx} {s : State} {l : List Claim}

/-- The list as a change leaves it, before its standing is handed over. -/
def listed (x : Ctx) (l : List Claim) (s : State) : State := { s with claims := { s.claims with entries := regraded x l } }

/-- A standing that stays as it was is handed to no block (R73). -/
theorem changeList_same (h : standingIn x l = standingIn x s.claims.entries) : changeList x l s = listed x l s := by
  simp [changeList, h, listed]

theorem changeList_moved (h : standingIn x l ≠ standingIn x s.claims.entries) :
    changeList x l s = handStanding x (standingIn x l) (listed x l s) := by
  simp [changeList, h, listed]

/-- The controller has nothing to do with a standing in IDLE and RELEASING. -/
theorem changeList_quiet (h : s.screen.wash = .idle ∨ s.screen.wash = .releasing) : changeList x l s = listed x l s := by
  by_cases hs : standingIn x l = standingIn x s.claims.entries
  · exact changeList_same hs
  · rw [changeList_moved hs]
    rcases h with h | h
    · exact handStanding_idle (s := listed x l s) h _
    · exact handStanding_releasing (s := listed x l s) h _

/-- A list without the own claim is no word to the controller. -/
theorem changeList_none (h : ∀ e ∈ l, e.bay ≠ x.bay) : changeList x l s = listed x l s := by
  by_cases hs : standingIn x l = standingIn x s.claims.entries
  · exact changeList_same hs
  · rw [changeList_moved hs, standingIn_eq_none_iff.2 h, handStanding_none]

theorem withoutBay_no_own (l : List Claim) : ∀ e ∈ withoutBay x.bay l, e.bay ≠ x.bay := by simp [withoutBay]

/-- The removal of the own claim by a RELEASE (R78). -/
theorem removeReleased_of_holds {tag : Nat} (h : ∃ e ∈ s.claims.entries, e.bay = x.bay ∧ e.tag = tag) :
    removeReleased x x.bay tag s = listed x (withoutBay x.bay s.claims.entries) s := by
  obtain ⟨e, he, hb, ht⟩ := h
  have h1 : holdsClaim x.bay tag s = true := by
    simp only [holdsClaim, List.any_eq_true]
    exact ⟨e, he, by simp [hb, ht]⟩
  have h2 : s.claims.entries.any (fun e => e.bay = x.bay) = true := List.any_eq_true.2 ⟨e, he, by simp [hb]⟩
  unfold removeReleased removeClaim
  rw [if_pos h1, if_pos h2, changeList_none (withoutBay_no_own _)]

theorem removeReleased_of_not_holds {b : Bay} {tag : Nat} (h : ∀ e ∈ s.claims.entries, e.bay = b → e.tag ≠ tag) :
    removeReleased x b tag s = s := by
  unfold removeReleased
  rw [if_neg]
  simp only [holdsClaim, List.any_eq_true, not_exists, not_and, Bool.and_eq_true, decide_eq_true_eq]
  exact h

/-- Whatever it finds, the removal by the own RELEASE moves the list alone. -/
theorem removeReleased_own_eq (tag : Nat) :
    ∃ c, removeReleased x x.bay tag s = { s with claims := c } := by
  by_cases h : ∃ e ∈ s.claims.entries, e.bay = x.bay ∧ e.tag = tag
  · exact ⟨_, removeReleased_of_holds h⟩
  · refine ⟨s.claims, removeReleased_of_not_holds fun e he hb ht => h ⟨e, he, hb, ht⟩⟩

/-- A claim placed by its class in a list in order: behind the last URGENT entry, or at the end (R75). -/
theorem placed_eq {e : Claim} (h : urgentFirst l) : placed e l = match e.cls with
    | .routine => l ++ [e]
    | .urgent => (l.filter fun a => a.cls = .urgent) ++ e :: l.filter fun a => a.cls = .routine := by
  have hsplit : l = l.rdropWhile isRoutine ++ l.rtakeWhile isRoutine := (List.rdropWhile_append_rtakeWhile ..).symm
  have hu : (l.filter fun a => a.cls = .urgent) = l.rdropWhile isRoutine := by
    conv_lhs => rw [hsplit]
    rw [List.filter_append, List.filter_eq_self.2 fun a ha => by simp [urgent_of_mem_rdropWhile h ha],
      List.filter_eq_nil_iff.2 fun a ha => by simp [routine_of_mem_rtakeWhile ha], List.append_nil]
  have hr : (l.filter fun a => a.cls = .routine) = l.rtakeWhile isRoutine := by
    conv_lhs => rw [hsplit]
    rw [List.filter_append, List.filter_eq_nil_iff.2 fun a ha => by simp [urgent_of_mem_rdropWhile h ha],
      List.filter_eq_self.2 fun a ha => by simp [routine_of_mem_rtakeWhile ha], List.nil_append]
  unfold placed
  cases e.cls
  · rfl
  · rw [hu, hr]

theorem urgentFirst_filter {p : Claim → Bool} (h : urgentFirst l) : urgentFirst (l.filter p) := h.sublist List.filter_sublist

theorem placed_own_standing (tag : Nat) (k : ClaimClass) (d : Nat) (l : List Claim) :
    standingIn x (placed ⟨x.bay, tag, k, d, 0⟩ (withoutBay x.bay l)) ≠ .none := by
  rw [Ne, standingIn_none_iff_own, ownIn_placed_own]
  simp

end

/-! ### The next frame -/

/-- The transmitter IDLE, its hand empty. -/
def idled (s : State) : State := { s with link := { s.link with tx := .idle } }

theorem finishFrame_eq (x : Ctx) (tell : State → State) (s : State) :
    finishFrame x tell s = takeNext x (idled (tell (handEmptied s))) := rfl

theorem takeNext_empty {x : Ctx} {s : State} (h : s.link.queue = []) : takeNext x s = s := by
  unfold takeNext
  rw [h]
  split <;> simp_all

theorem takeNext_cons {x : Ctx} {s : State} {f : TxFrame} {rest : List TxFrame} (h : s.link.queue = f :: rest) :
    takeNext x (idled s) = { s with link := { s.link with
      tx := .defer, inHand := some ⟨f, 1, []⟩, queue := rest, accessTimer := some (s.clock + ms (accessLimitMs x.cfg)) } } := by
  unfold takeNext idled
  simp only [h]
  rfl

/-- A frame that waits is taken, and the transmitter defers. -/
theorem takeNext_defer {x : Ctx} {s : State} {f : TxFrame} (h : f ∈ s.link.queue) : (takeNext x (idled s)).link.tx = .defer := by
  obtain ⟨g, rest, hq⟩ := List.exists_cons_of_ne_nil (List.ne_nil_of_mem h)
  rw [takeNext_cons hq]

@[simp] theorem idled_frame (s : State) : (idled s).screen = s.screen ∧ (idled s).claims = s.claims ∧ (idled s).link.queue = s.link.queue ∧
    (idled s).clock = s.clock := ⟨rfl, rfl, rfl, rfl⟩

/-! ### A wash begun by a busy transmitter's frame -/

section
variable {x : Ctx} {s : State}

/-- The STATUS of the change to WASHING waits at a busy transmitter. -/
theorem enterWashing_status (hw : s.screen.wash ≠ .washing) (hi : s.link.tx ≠ .idle) (hm : s.link.tx ≠ .mute) :
    TxFrame.status ∈ (enterWashing x s).link.queue := by
  have hq : TxFrame.status ∈ (washLoaded x s).link.queue := setWash_queued hw hi hm
  have ht := (washLoaded_told (x := x) (s := s) (w := false)).tx_kept hi
  rw [enterWashing_eq]
  unfold continueWash
  split
  · unfold releaseClaim
    have hi' : (stopWashing (washLoaded x s)).link.tx ≠ .idle := by simp [stopWashing, ht, hi]
    refine (setWash_told x _ .releasing).mem_queue ?_ (mem_queue_offer hi' (by simpa [stopWashing] using hq))
    rw [(Told.offer (x := x) (w := true) (.release (washLoaded x s).screen.tag) (stopWashing (washLoaded x s)) (.inl rfl)).tx_kept hi']
    exact hi'
  · simpa using hq

/-- A wash begun as the own CLAIM is listed (R76, R95). -/
theorem enterWashing_completed (hw : s.screen.wash = .claiming) (hi : s.link.tx ≠ .idle) (hm : s.link.tx ≠ .mute) :
    (takeNext x (idled (enterWashing x s))).link.tx = .defer ∧ washStarts x s (takeNext x (idled (enterWashing x s))) := by
  have hne : s.screen.wash ≠ .washing := by simp [hw]
  refine ⟨takeNext_defer (enterWashing_status hne hi hm), washStarts_congr (enterWashing_starts hne) rfl rfl rfl (by simp) ?_ ?_⟩
  · apply driveChoice_congr <;> simp [idled]
  · by_cases hc : s.screen.completed < (washSetInForce x.cfg s).cycles
    · exact .inl hc
    · exact .inr (.inr (mem_takeNext (enterWashing_queued hi hm (not_lt.1 hc))))

end

/-! ### The own RELEASE and the own CLAIM told to the controller -/

section
variable {x : Ctx} {s : State}

/-- The wash end (R97). -/
theorem washEnd_releasing (h : s.screen.wash = .releasing) : (washEnd x s).screen.wash = .idle ∧
    (washEnd x s).screen.gapTimer = some (s.clock + ms (x.cfg.minWashGap * 60000)) ∧ (washEnd x s).screen.intervalDue = false ∧
    (washEnd x s).screen.intervalTimer =
      (if x.cfg.maxWashInterval = 0 then none else some (s.clock + ms (x.cfg.maxWashInterval * 60000))) ∧
    (s.link.tx ≠ .idle → s.link.tx ≠ .mute → TxFrame.status ∈ (washEnd x s).link.queue) := by
  unfold washEnd
  rw [if_pos h]
  refine ⟨by simp, by simp [ahead], by simp, by simp [ahead], fun hi hm => setWash_queued ?_ hi hm⟩
  simp [h]

/-- The end of a RELEASE, sent or dropped, of a RELEASING wash (R78, R97, R162). -/
theorem releaseEnds {tag : Nat} {t : State} (hw : s.screen.wash = .releasing) (hi : s.link.tx ≠ .idle) (hm : s.link.tx ≠ .mute)
    (ht : t = takeNext x (idled (washEnd x (removeReleased x x.bay tag s)))) :
    t.screen.wash = .idle ∧
    ((∃ e ∈ s.claims.entries, e.bay = x.bay ∧ e.tag = tag) →
      t.claims.entries = regraded x (s.claims.entries.filter fun e => e.bay ≠ x.bay)) ∧
    ((∀ e ∈ s.claims.entries, e.bay = x.bay → e.tag ≠ tag) → t.claims = s.claims) ∧
    t.screen.gapTimer = some (s.clock + ms (x.cfg.minWashGap * 60000)) ∧ t.screen.intervalDue = false ∧
    t.screen.intervalTimer = (if x.cfg.maxWashInterval = 0 then none
                              else some (s.clock + ms (x.cfg.maxWashInterval * 60000))) ∧
    t.link.tx = .defer := by
  obtain ⟨c, hc⟩ := removeReleased_own_eq (x := x) (s := s) tag
  obtain ⟨h1, h2, h3, h4, h5⟩ := washEnd_releasing (x := x) (s := removeReleased x x.bay tag s) (by rw [hc]; exact hw)
  subst ht
  refine ⟨by simpa using h1, fun h => ?_, fun h => ?_, ?_, by simpa using h3, ?_, takeNext_defer (h5 ?_ ?_)⟩
  · simp only [takeNext_frame, idled_frame, washEnd_frame]
    rw [removeReleased_of_holds h]
    rfl
  · simp only [takeNext_frame, idled_frame, washEnd_frame]
    rw [removeReleased_of_not_holds h]
  · simp only [takeNext_frame, idled_frame]
    rw [h2, hc]
  · simp only [takeNext_frame, idled_frame]
    rw [h4, hc]
  · rw [hc]; exact hi
  · rw [hc]; exact hm

end

/-- Settles O44. -/
theorem completionTellsTheSender : Obligations.CompletionTellsTheSender := by
  intro s x h hx htx hh
  let r : State := { s with link := { s.link with receiver := .waitIdle } }
  have hstep : exec .transmitCompletion s = .next (takeNext x (idled (tellCompletion x h.frame (handEmptied r)))) := by
    refine congrArg _ ((whenLive_of hx _).trans ?_)
    split
    next i _ hi =>
      obtain rfl : h = i := Option.some.inj (hh.symm.trans hi)
      rfl
    next hno => exact absurd hh (hno h htx)
  have hi : (handEmptied r).link.tx ≠ .idle := by simp [handEmptied, r, htx]
  have hm : (handEmptied r).link.tx ≠ .mute := by simp [handEmptied, r, htx]
  rw [hstep]
  refine ⟨fun hf hq => ?_, fun f rest hf hq => ?_, fun tag k n hf hclaim hnone => ?_, fun tag hf hw => ?_⟩
  · rw [hf, tellCompletion, takeNext_empty (s := idled (handEmptied r)) hq]
    rfl
  · rw [hf, tellCompletion, takeNext_cons (s := handEmptied r) hq]
    rfl
  · let e : Claim := ⟨x.bay, tag, k, n, 0⟩
    let l := placed e (withoutBay x.bay s.claims.entries)
    have hl : standingIn x l ≠ .none := placed_own_standing tag k n s.claims.entries
    have htell : tellCompletion x h.frame (handEmptied r) = handStanding x (standingIn x l) (listed x l (handEmptied r)) := by
      rw [hf]
      exact changeList_moved (s := handEmptied r) (ne_of_ne_of_eq hl hnone.symm)
    have hentries : (takeNext x (idled (tellCompletion x h.frame (handEmptied r)))).claims.entries = regraded x l := by
      rw [htell]; simp [listed]
    refine ⟨_, rfl, ?_, ?_, fun hw => ⟨?_, fun hin => ?_, fun hbeyond => ?_⟩, fun hw => ⟨?_, ?_⟩, ?_⟩
    · rw [hentries]
      simp only [l]
      rw [placed_eq (e := e) (l := withoutBay x.bay s.claims.entries) (urgentFirst_filter hclaim.ordered)]
      cases k <;> rfl
    · rw [hentries, standingIn_regraded]; exact hl
    all_goals rw [htell]
    · have hw' : (listed x l (handEmptied r)).screen.wash = .claiming := hw
      cases hst : standingIn x l with
      | none => exact absurd hst hl
      | inRange =>
        rw [handStanding_inRange (.inl hw')]
        exact (enterWashing_completed hw' hi hm).1
      | beyondRange =>
        rw [handStanding_waits hw']
        exact takeNext_defer (setWash_queued (by simp [hw']) hi hm)
    · rw [hentries, standingIn_regraded] at hin
      have hw' : (listed x l (handEmptied r)).screen.wash = .claiming := hw
      rw [hin, handStanding_inRange (.inl hw')]
      refine washStarts_congr (enterWashing_completed (x := x) hw' hi hm).2 rfl rfl rfl rfl rfl ?_
      by_cases hc : s.screen.completed < (washSetInForce x.cfg s).cycles
      · exact .inl hc
      · exact .inr (.inr (mem_takeNext (enterWashing_queued hi hm (not_lt.1 hc))))
    · rw [hentries, standingIn_regraded] at hbeyond
      have hw' : (listed x l (handEmptied r)).screen.wash = .claiming := hw
      rw [hbeyond, handStanding_waits hw']
      simp
    · rw [handStanding_releasing (s := listed x l (handEmptied r)) hw]
      simp [listed, handEmptied, r]
    · rw [handStanding_releasing (s := listed x l (handEmptied r)) hw]
      cases hq : s.link.queue with
      | nil =>
        rw [takeNext_empty (s := idled (listed x l (handEmptied r))) hq]
        simp [idled, listed, handEmptied, r, hq]
      | cons f rest =>
        rw [takeNext_cons (s := listed x l (handEmptied r)) hq]
        rfl
    · apply State.eq_of_parts <;> simp [idled, listed, handEmptied, r]
  · obtain ⟨h1, h2, h3, h4, h5, h6, h7⟩ := releaseEnds (x := x) (s := handEmptied r) (tag := tag) hw hi hm rfl
    rw [hf]
    refine ⟨_, rfl, h1, h2, h3, h4, h5, h6, h7, ?_⟩
    apply State.eq_of_parts <;> simp [tellCompletion, idled, handEmptied, r]

/-! ### Failed attempts -/

theorem failAttempt_below {x : Ctx} {s : State} {h : InHand} (hh : s.link.inHand = some h) (hn : h.attempt < 8) :
    failAttempt x s = { s with link := { s.link with
      tx := .defer, inHand := some { h with attempt := h.attempt + 1 },
      accessTimer := some (s.clock + ms (accessLimitMs x.cfg)) } } := by
  simp [failAttempt, hh, hn, accessAhead, ahead]

theorem failAttempt_eighth {x : Ctx} {s : State} {h : InHand} (hh : s.link.inHand = some h) (hn : 8 ≤ h.attempt) :
    failAttempt x s = takeNext x (idled (tellDrop x h.frame (handEmptied s))) := by
  simp only [failAttempt, hh, if_neg (not_lt.2 hn), finishFrame_eq]

/-- Settles O45. -/
theorem collisionsRetryAndDrop : Obligations.CollisionsRetryAndDrop := by
  intro s x h hx hh
  refine ⟨fun matched got htx => ⟨_, rfl, ?_⟩, fun c hc => ?_⟩
  · rw [whenLive_of hx]
    simp only [htx, hh, accessAhead, ahead]
  have hbusy : s.link.tx = .defer ∨ s.link.tx = .backoff := hc.elim (fun h => .inr h.2) fun h => h.2.1
  have hstep : exec c s = .next (failAttempt x s) := by
    rcases hc with ⟨rfl, htx⟩ | ⟨rfl, htx, d, ht, hd⟩
    · exact congrArg _ ((whenLive_of hx _).trans (if_pos htx))
    · exact congrArg _ ((whenLive_of hx _).trans ((if_pos (by simpa using htx)).trans (onExpiry_due ht hd _)))
  have hi : (handEmptied s).link.tx ≠ .idle := by rcases hbusy with h | h <;> simp [handEmptied, h]
  have hm : (handEmptied s).link.tx ≠ .mute := by rcases hbusy with h | h <;> simp [handEmptied, h]
  rw [hstep]
  refine ⟨fun hn => ?_, fun hn hf hq => ?_, fun hn hf => ?_, fun hn tag hf hw => ?_⟩
  · rw [failAttempt_below hh hn]
  · rw [failAttempt_eighth hh hn, hf, tellDrop, takeNext_empty (s := idled (handEmptied s)) hq]
    rfl
  · obtain ⟨tag, k, n, hf⟩ := hf
    rw [failAttempt_eighth hh hn, hf]
    refine ⟨_, rfl, by simp [tellDrop, handEmptied], fun hw => ?_, fun hw => ?_, ?_, ?_, ?_⟩
    · have hd : tellDrop x (.claim tag k n) (handEmptied s) = setWash x .idle (handEmptied s) := if_pos hw
      rw [hd]
      exact ⟨by simp, takeNext_defer (setWash_queued (by simp [handEmptied, hw]) hi hm)⟩
    · have hd : tellDrop x (.claim tag k n) (handEmptied s) = handEmptied s := if_neg hw
      rw [hd]
      simp [handEmptied]
    · simp only [takeNext_frame, idled_frame, tellDrop, claimDropped]
      split <;> simp [handEmptied]
    · simp only [takeNext_frame, idled_frame, tellDrop, claimDropped]
      split <;> simp [handEmptied]
    · apply State.eq_of_parts <;> simp [tellDrop, idled, handEmptied]
  · rw [failAttempt_eighth hh hn, hf]
    obtain ⟨h1, h2, h3, h4, h5, h6, h7⟩ := releaseEnds (x := x) (s := handEmptied s) (tag := tag) hw hi hm rfl
    refine ⟨_, rfl, h1, h4, h2, ?_⟩
    apply State.eq_of_parts <;> simp [tellDrop, idled, handEmptied]

end Sys2Proof.Machine
end

section
/-! PROOF. The bay conflict and the acknowledge: the statements O37 and O47. -/

namespace Sys2Proof.Machine

set_option Elab.async false

/-! ### Alarms that move with the pump -/

/-- The entries a condition's change leaves depend on the conditions and the entries alone. -/
theorem setCond_alarms_congr {x : Ctx} {a : Alarm} {v : Bool} {s t : State} (hc : t.conds = s.conds) (ha : t.alarms = s.alarms) :
    (setCond x a v t).alarms = (setCond x a v s).alarms := by
  unfold setCond
  rw [hc]
  split
  · exact ha
  · rw [annunciate_alarms, annunciate_alarms]
    simp only [alarmState, ha]

/-- In MUTE nothing is offered (R158). -/
theorem setCond_mute {x : Ctx} {a : Alarm} {v : Bool} {s : State} (h : s.link.tx = .mute) : (setCond x a v s).link = s.link := by
  rcases setCond_link x a v s with hl | ⟨u, hu, hl⟩
  · exact hl
  · rw [hl, offer_mute (by rw [hu]; exact h), hu]

/-- An offer leaves the receiver and the status timer. -/
@[simp] theorem offer_link_kept (x : Ctx) (f : TxFrame) (s : State) : (offer x f s).link.receiver = s.link.receiver ∧
    (offer x f s).link.statusTimer = s.link.statusTimer := by
  unfold offer takeNext
  split_ifs
  · exact ⟨rfl, rfl⟩
  · exact ⟨rfl, rfl⟩
  · split <;> exact ⟨rfl, rfl⟩

@[simp] theorem setCond_link_kept (x : Ctx) (a : Alarm) (v : Bool) (s : State) :
    (setCond x a v s).link.receiver = s.link.receiver ∧ (setCond x a v s).link.statusTimer = s.link.statusTimer := by
  rcases setCond_link x a v s with hl | ⟨u, hu, hl⟩
  · rw [hl]; exact ⟨rfl, rfl⟩
  · rw [hl, ← hu]; exact offer_link_kept x .status u

theorem setPump_mute {x : Ctx} {p : PumpState} {s : State} (h : s.link.tx = .mute) : (setPump x p s).link = s.link := by
  unfold setPump
  split
  · rfl
  · dsimp only
    have hn : (noteCounted x (countedRunning s) (offerStatus x { s with pump := { s.pump with state := p } })).link = s.link := by
      rw [offerStatus_mute (by exact h)]
      simp
    rw [setCond_mute, setCond_mute, hn]
    · rw [hn]; exact h
    · rw [setCond_mute] <;> rw [hn]
      all_goals exact h

theorem withdrawStart_mute {x : Ctx} {c : Cause} {s : State} (h : s.link.tx = .mute) : (withdrawStart x c s).link = s.link :=
  setPump_mute (s := { s with pump := { s.pump with guardTimer := none, cause := c } }) h

theorem setWash_mute {x : Ctx} {w : WashState} {s : State} (h : s.link.tx = .mute) : (setWash x w s).link = s.link := by
  unfold setWash
  split
  · rfl
  · rw [offerStatus_mute (by simpa using h)]
    simp

theorem setPump_alarms {x : Ctx} {p : PumpState} {s : State} (h : s.pump.state ≠ p) : (setPump x p s).alarms =
    (setCond x .pumpFail (p = .failed) (setCond x .pumpTrip (p = .tripped) s)).alarms := by
  unfold setPump
  rw [if_neg h]
  refine setCond_alarms_congr ?_ (setCond_alarms_congr ?_ ?_)
  · simp only [setCond_conds, noteCounted_frame, offerStatus_frame]
  · simp
  · simp

/-- A pump that is neither tripped nor failed before and after moves no alarm. -/
theorem setPump_alarms_kept {x : Ctx} {p : PumpState} {s : State} (h1 : s.conds.pumpTrip = false) (h2 : s.conds.pumpFail = false)
    (hp1 : p ≠ .tripped) (hp2 : p ≠ .failed) : (setPump x p s).alarms = s.alarms ∧ (setPump x p s).conds = s.conds := by
  by_cases h : s.pump.state = p
  · rw [setPump_same h]; exact ⟨rfl, rfl⟩
  · rw [setPump_alarms h, setPump_conds h, decide_eq_false hp1, decide_eq_false hp2, setCond_same (a := .pumpTrip) h1,
      setCond_same (a := .pumpFail) h2]
    refine ⟨rfl, Conds.ext_get fun a => ?_⟩
    cases a <;> simp [Conds.get, h1, h2]

/-- A pending start withdrawn: the pump's own fields, and no counted running, alarm or record (R129, R131). -/
theorem withdrawStart_eq {x : Ctx} {c : Cause} {s : State} (hp : s.pump.state = .startPending) (h1 : s.conds.pumpTrip = false)
    (h2 : s.conds.pumpFail = false) : withdrawStart x c s =
      { s with pump := { s.pump with state := .stopped, guardTimer := none, cause := c }, link := (withdrawStart x c s).link } := by
  let u : State := { s with pump := { s.pump with guardTimer := none, cause := c } }
  obtain ⟨k1, k2, k3⟩ := setPump_counted_same (x := x) (p := .stopped) (s := u) (by simp [u, countedRunning, countsRunning, hp])
  obtain ⟨k4, k5⟩ := setPump_alarms_kept (x := x) (p := .stopped) (s := u) h1 h2 (by decide) (by decide)
  apply State.eq_of_parts <;> simp [withdrawStart, u] at * <;> assumption

/-! ### The bay conflict -/

theorem failingPart_conflict {c : Settings} {s : State} (h : s.conds.bayConflict = true) : failingPart c s = some .notEligible := by
  simp [failingPart, eligible, h]

/-- The conflict at the pump: a START pulse is cut, and a pending start is withdrawn (R128, R142). -/
theorem conflictAtPump_eq {x : Ctx} {s : State} (hb : s.conds.bayConflict = true) (hm : s.link.tx = .mute) (ht : PumpTells s) :
    conflictAtPump x s = { s with pump := { s.pump with
      pulse := if s.pump.pulse = some .start then none else s.pump.pulse,
      pulseTimer := if s.pump.pulse = some .start then none else s.pump.pulseTimer,
      state := if s.pump.state = .startPending then .stopped else s.pump.state,
      guardTimer := if s.pump.state = .startPending then none else s.pump.guardTimer,
      cause := if s.pump.state = .startPending then .notEligible else s.pump.cause } } := by
  let u : State := { s with pump := { s.pump with
    pulse := if s.pump.pulse = some .start then none else s.pump.pulse,
    pulseTimer := if s.pump.pulse = some .start then none else s.pump.pulseTimer } }
  have hu : (if s.pump.pulse = some .start then cutPulse s else s) = u := by
    simp only [u]
    split <;> rfl
  unfold conflictAtPump checkPending
  rw [hu, failingPart_conflict (s := u) hb]
  by_cases hp : s.pump.state = .startPending
  · have h1 : s.conds.pumpTrip = false := by simpa [hp] using ht.trip
    have h2 : s.conds.pumpFail = false := by simpa [hp] using ht.fail
    rw [if_pos (show u.pump.state = .startPending from hp)]
    dsimp only
    rw [withdrawStart_eq (s := u) hp h1 h2, withdrawStart_mute (s := u) hm]
    simp [u, hp]
  · rw [if_neg (show u.pump.state ≠ .startPending from hp)]
    simp [u, hp]

/-- Settles O47. -/
theorem ownBayHeardIsAConflict : Obligations.OwnBayHeardIsAConflict := by
  intro s x f hx hw htx hf hk hbay
  let r : State := { s with link := { s.link with receiver := .waitIdle } }
  have hstep : exec (.statusFrame f) s = .next (bayConflictFound x r) := by
    refine congrArg _ ((hearFrame_takes hx hw htx hf hk _).trans ?_)
    simp [fromBay, hbay, r]
  rw [hstep]
  refine ⟨fun hb => by rw [bayConflictFound, if_pos hb], fun hb hclaim hpump => ?_⟩
  let t := setCond x .bayConflict true r
  let u : State := { t with link := { t.link with
    tx := .mute, inHand := none, queue := [], accessTimer := none, statusTimer := none } }
  let v := removeClaim x x.bay u
  let w := conflictAtScreen x v
  have hfound : bayConflictFound x r = conflictAtPump x w := by
    rw [bayConflictFound, if_neg (by simp [r, hb])]
  have hconds : t.conds = { s.conds with bayConflict := true } := by simp [t, r, Conds.set]
  have hv : v = { u with claims := { u.claims with
      entries := regraded x (s.claims.entries.filter fun e => e.bay ≠ x.bay) } } := by
    by_cases hany : s.claims.entries.any (fun e => e.bay = x.bay) = true
    · have hl : v = changeList x (withoutBay x.bay u.claims.entries) u := if_pos (by simpa [u, t, r] using hany)
      rw [hl, changeList_none (withoutBay_no_own _)]
      simp [listed, withoutBay, u, t, r]
    · have hl : v = u := if_neg (by simpa [u, t, r] using hany)
      have hkeep : (s.claims.entries.filter fun e => e.bay ≠ x.bay) = s.claims.entries :=
        List.filter_eq_self.2 fun e he => by simpa using fun h => hany (List.any_eq_true.2 ⟨e, he, by simpa using h⟩)
      rw [hl, hkeep, ← hclaim.timed x hx]
      simp [u, t, r]
  have hvl : v.link = u.link := by rw [hv]
  have hwl : w.link = u.link := by
    simp only [w, conflictAtScreen, selectDrive_frame]
    rw [setWash_mute (by simp [stopWashing, hvl, u])]
    simp [stopWashing, hvl]
  have hwp : w.pump = s.pump := by simp [w, v, u, t, r]
  have hwc : w.conds = t.conds := by simp [w, v, u]
  have htells : PumpTells w := ⟨by rw [hwp, hwc, hconds]; exact hpump.trip, by rw [hwp, hwc, hconds]; exact hpump.fail⟩
  have heq := conflictAtPump_eq (x := x) (s := w) (by simp [hwc, hconds]) (by rw [hwl]) htells
  have hcut : (conflictAtPump x w).pump.pulse = (if s.pump.pulse = some .start then none else s.pump.pulse) ∧
      (conflictAtPump x w).pump.pulseTimer = (if s.pump.pulse = some .start then none else s.pump.pulseTimer) ∧
      (conflictAtPump x w).pump.state = (if s.pump.state = .startPending then .stopped else s.pump.state) ∧
      (conflictAtPump x w).pump.cause = (if s.pump.state = .startPending then .notEligible else s.pump.cause) ∧
      (conflictAtPump x w).pump.feedbackTimer = s.pump.feedbackTimer := by
    rw [heq, hwp]
    exact ⟨rfl, rfl, rfl, rfl, rfl⟩
  obtain ⟨c1, c2, c3, c4, c5⟩ := hcut
  have halarms : (conflictAtPump x w).alarms = t.alarms := by
    rw [heq]
    simp [w, v, u]
  have hdrive : driveChoice w = .off := by simp [driveChoice, hwc, hconds]
  refine ⟨conflictAtPump x w, by rw [hfound], ?_, fun he hn => ?_, fun a ha => ?_, ?_, ?_, ?_, ?_, ?_, ?_, ?_, ?_, fun h => ?_,
    fun h => ?_, fun h => ?_, fun h => ?_, by rw [heq]; simp [w, v, u, t, r], by rw [heq]; simp [w, v, u, t, r], ?_⟩
  · rw [heq, hwc, hconds]
  · rw [alarmState_congr halarms, alarmState_setCond, if_pos ⟨rfl, he, by simp [r, Conds.get, hb]⟩]
    have hn' : alarmState r .bayConflict = .normal := hn
    rw [hn']
    rfl
  · rw [alarmState_congr halarms, alarmState_setCond, if_neg fun h => ha h.1.symm]
    rfl
  · rw [heq, hwl]
    simp [u, t, r]
  · rw [heq]
    simp [w, hv]
  · rw [heq]
    simp [w, conflictAtScreen]
  · rw [heq]
    have hd : w.screen.drive = driveChoice w := by simp [w, conflictAtScreen]
    exact hd.trans hdrive
  · rw [heq]
    simp [w, conflictAtScreen, stopWashing]
  · rw [heq]
    simp [w, conflictAtScreen, stopWashing]
  · rw [heq]
    simp [w, conflictAtScreen, stopWashing, hv, u, t, r]
  · rw [heq]
    simp [w, conflictAtScreen, stopWashing, hv, u, t, r]
  · rw [c1, c2, if_pos h, if_pos h]; exact ⟨rfl, rfl⟩
  · rw [c1, c2, if_neg h, if_neg h]; exact ⟨rfl, rfl⟩
  · rw [c3, c4, if_pos h, if_pos h]; exact ⟨rfl, rfl⟩
  · rw [c3, c5, if_neg h]; exact ⟨rfl, rfl⟩
  · rw [heq]
    apply State.eq_of_parts <;> simp [w, v, u, t, r]

/-! ### The acknowledge -/

/-- A change of an entry is announced by a STATUS, outside MUTE. -/
def Announced (x : Ctx) (s t : State) : Prop :=
  Told x false s t ∧ (s.link.tx ≠ .mute → t.alarms = s.alarms ∨ Held .status t)

namespace Announced

variable {x : Ctx} {s t u : State}

theorem trans (h : Announced x s t) (k : Announced x t u) : Announced x s u := by
  refine ⟨.trans h.1 k.1, fun hm => ?_⟩
  rcases k.2 (h.1.not_mute hm) with k2 | k2
  · rcases h.2 hm with h2 | h2
    · exact .inl (k2.trans h2)
    · exact .inr (k.1.held h2)
  · exact .inr k2

theorem of_alarms (h : Told x false s t) (ha : t.alarms = s.alarms) : Announced x s t := ⟨h, fun _ => .inl ha⟩

theorem annunciated (a : Alarm) (v : Bool) (s : State) (hm : s.link.tx ≠ .mute) :
    (annunciate x a v s).alarms = s.alarms ∨ Held .status (annunciate x a v s) := by
  unfold annunciate
  dsimp only
  split
  · exact .inr (held_offer (by exact hm))
  · exact .inl rfl

theorem cond (a : Alarm) (v : Bool) (s : State) (ha : a ≠ .bayConflict) : Announced x s (setCond x a v s) := by
  refine ⟨.cond a v s ha, fun hm => ?_⟩
  unfold setCond
  split
  · exact .inl rfl
  · exact annunciated a v { s with conds := s.conds.set a v } hm

theorem pump (p : PumpState) (s : State) : Announced x s (setPump x p s) := by
  refine ⟨setPump_told x s p, fun hm => ?_⟩
  by_cases h : s.pump.state = p
  · rw [setPump_same h]; exact .inl rfl
  · exact .inr (setPump_held h hm)

/-- A change of pump state after fields of the pump's own. -/
theorem pump_after (p : PumpState) (hc : t.conds = s.conds) (ha : t.alarms = s.alarms) (hl : t.link = s.link) :
    Announced x s (setPump x p t) := trans (.of_alarms (.of_eq hc ha hl) ha) (pump p t)

theorem protects (s : State) : Announced x s (protectOnEntry x s) := by
  unfold protectOnEntry
  split
  · unfold enterStopping
    exact pump_after .stopping rfl rfl rfl
  · exact .of_alarms (.refl s) rfl

theorem ackPump (s : State) : Announced x s (ackAtPump x s) := by
  unfold ackAtPump
  split
  · split
    · unfold takeOverRunning
      refine trans (pump_after .running ?_ ?_ ?_) (protects _) <;> rfl
    · unfold enterStopped
      exact pump_after .stopped rfl rfl rfl
  · exact .of_alarms (.refl s) rfl

theorem ackScreen (s : State) : Announced x s (ackAtScreen x s) := by
  unfold ackAtScreen
  split
  · exact trans (.cond .screenStall false s (by decide)) (.of_alarms .of_eq (by simp))
  · exact .of_alarms (.refl s) rfl

theorem entries (s : State) : Announced x s (ackEntries x s) := by
  refine ⟨ackEntries_told x s, fun hm => ?_⟩
  unfold ackEntries
  dsimp only
  split
  · exact .inl rfl
  · exact .inr (held_offer (by exact hm))

theorem acknowledged (s : State) : Announced x s (acknowledge x s) :=
  trans (trans (trans (entries s) (ackPump _)) (ackScreen _)) (.cond .dutyRecordLost false _ (by decide))

end Announced

theorem enterStopping_alarms {x : Ctx} {s : State} (h1 : s.conds.pumpTrip = false) (h2 : s.conds.pumpFail = false) :
    (enterStopping x s).alarms = s.alarms ∧ (enterStopping x s).conds = s.conds := by
  unfold enterStopping
  refine setPump_alarms_kept ?_ ?_ (by decide) (by decide)
  · exact h1
  · exact h2

/-- The end of FAILED moves PUMP FAIL and its alarm alone (R139). -/
theorem ackAtPump_alarms {x : Ctx} {s : State} (h : PumpTells s) : (ackAtPump x s).conds = s.conds.set .pumpFail false ∧
    (ackAtPump x s).alarms = (setCond x .pumpFail false s).alarms := by
  have hfail := h.fail
  by_cases hp : s.pump.state = .failed
  · have htrip : s.conds.pumpTrip = false := by simpa [hp] using h.trip
    have left (p : PumpState) (u : State) (hu : u.pump.state = .failed) (hc : u.conds = s.conds) (ha : u.alarms = s.alarms)
        (hn : p ≠ .failed) (hn' : p ≠ .tripped) : (setPump x p u).conds = s.conds.set .pumpFail false ∧
        (setPump x p u).alarms = (setCond x .pumpFail false s).alarms := by
      have hne : u.pump.state ≠ p := fun e => hn (e.symm.trans hu)
      rw [setPump_alarms hne, setPump_conds hne, decide_eq_false hn, decide_eq_false hn',
        setCond_same (a := .pumpTrip) (s := u) (by rw [hc]; exact htrip)]
      refine ⟨?_, setCond_alarms_congr hc ha⟩
      rw [hc, ← htrip]
      rfl
    unfold ackAtPump
    rw [if_pos hp]
    split
    · obtain ⟨k1, k2⟩ := left .running { s with pump := { s.pump with minRunTimer := none } } hp rfl rfl (by decide) (by decide)
      unfold takeOverRunning protectOnEntry
      split
      · obtain ⟨m1, m2⟩ := enterStopping_alarms (x := x) (s := setPump x .running { s with pump := { s.pump with minRunTimer := none } })
          (by rw [k1]; exact htrip) (by rw [k1]; rfl)
        exact ⟨m2.trans k1, m1.trans k2⟩
      · exact ⟨k1, k2⟩
    · exact left .stopped _ hp rfl rfl (by decide) (by decide)
  · have hf : s.conds.pumpFail = false := by simpa [hp] using hfail
    rw [setCond_same (a := .pumpFail) hf, ackAtPump, if_neg hp]
    have hset := Conds.set_get_self s.conds .pumpFail
    rw [show s.conds.get .pumpFail = false from hf] at hset
    exact ⟨hset.symm, rfl⟩

/-- An acknowledge moves the entries by the table, and then those of the three conditions it ends. -/
theorem acknowledge_alarms {x : Ctx} {s : State} (h : PumpTells s) :
    (acknowledge x s).conds = ((s.conds.set .pumpFail false).set .screenStall false).set .dutyRecordLost false ∧
    (acknowledge x s).alarms = (setCond x .dutyRecordLost false (setCond x .screenStall false (setCond x .pumpFail false
      { s with alarms := ackedEntries x.cfg s.alarms }))).alarms := by
  have he : (ackEntries x s).conds = s.conds ∧ (ackEntries x s).alarms = ackedEntries x.cfg s.alarms ∧
      (ackEntries x s).pump = s.pump := by
    unfold ackEntries
    dsimp only
    split
    next h => exact ⟨rfl, h.symm, rfl⟩
    next => simp
  obtain ⟨e1, e2, e3⟩ := he
  obtain ⟨p1, p2⟩ := ackAtPump_alarms (x := x) (s := ackEntries x s) ⟨by rw [e1, e3]; exact h.trip, by rw [e1, e3]; exact h.fail⟩
  have stall (u : State) : (ackAtScreen x u).conds = (setCond x .screenStall false u).conds ∧
      (ackAtScreen x u).alarms = (setCond x .screenStall false u).alarms := by
    unfold ackAtScreen
    split
    · simp
    next hs => rw [setCond_same (by simpa [Conds.get] using hs)]; exact ⟨rfl, rfl⟩
  obtain ⟨s1, s2⟩ := stall (ackAtPump x (ackEntries x s))
  have hp : (setCond x .pumpFail false (ackEntries x s)).alarms =
      (setCond x .pumpFail false { s with alarms := ackedEntries x.cfg s.alarms }).alarms :=
    setCond_alarms_congr (by rw [e1]) (by rw [e2])
  constructor
  · simp only [acknowledge, ackAtLoader, setCond_conds, s1, p1, e1]
  · unfold acknowledge ackAtLoader
    refine setCond_alarms_congr ?_ ((s2.trans ?_))
    · simp only [s1, setCond_conds, p1, e1]
    · refine setCond_alarms_congr ?_ (p2.trans hp)
      simp only [p1, e1, setCond_conds]

/-- An entry stands under a change that is another alarm's, a disabled one's or none. -/
theorem alarmState_setCond_kept {x : Ctx} {a b : Alarm} {v : Bool} {s : State}
    (h : a ≠ b ∨ alarmEnabled x.cfg a.index.val = false ∨ s.conds.get a = v) : alarmState (setCond x a v s) b = alarmState s b := by
  rw [alarmState_setCond, if_neg]
  rintro ⟨h1, h2, h3⟩
  rcases h with h | h | h
  · exact h h1
  · simp [h] at h2
  · exact h3 h

/-- An entry under a fall of its own condition. -/
theorem alarmState_falls {x : Ctx} {a : Alarm} {s : State} (he : alarmEnabled x.cfg a.index.val = true) (hc : s.conds.get a = true) :
    alarmState (setCond x a false s) a = entryAfterChange false (alarmState s a) := by
  rw [alarmState_setCond, if_pos ⟨rfl, he, by simp [hc]⟩]

/-- The entries of an acknowledge: those of the three conditions it ends fall from where the table has put them. -/
theorem acknowledge_entries {x : Ctx} {s : State} (h : PumpTells s) (a : Alarm) : alarmState (acknowledge x s) a =
    if (a = .pumpFail ∨ a = .screenStall ∨ a = .dutyRecordLost) ∧ alarmEnabled x.cfg a.index.val = true ∧ s.conds.get a = true then
      entryAfterChange false (entryAfterAck (alarmState s a))
    else if alarmEnabled x.cfg a.index.val then entryAfterAck (alarmState s a) else alarmState s a := by
  obtain ⟨-, halarms⟩ := acknowledge_alarms (x := x) h
  rw [alarmState_congr halarms]
  have hack := alarmState_acked x.cfg s a
  split
  next hc =>
    obtain ⟨ha, he, hc⟩ := hc
    rw [if_pos he] at hack
    rcases ha with rfl | rfl | rfl
    · rw [alarmState_setCond_kept (.inl (by decide)), alarmState_setCond_kept (.inl (by decide)),
        alarmState_falls (s := { s with alarms := ackedEntries x.cfg s.alarms }) he hc, hack]
    · rw [alarmState_setCond_kept (.inl (by decide)), alarmState_falls he, alarmState_setCond_kept (.inl (by decide)), hack]
      rw [setCond_conds, Conds.get_set_of_ne _ _ (by decide)]
      exact hc
    · rw [alarmState_falls he, alarmState_setCond_kept (.inl (by decide)), alarmState_setCond_kept (.inl (by decide)), hack]
      rw [setCond_conds, Conds.get_set_of_ne _ _ (by decide), setCond_conds, Conds.get_set_of_ne _ _ (by decide)]
      exact hc
  next hc =>
    have still (b : Alarm) (hb : b = .pumpFail ∨ b = .screenStall ∨ b = .dutyRecordLost) :
        b ≠ a ∨ alarmEnabled x.cfg b.index.val = false ∨ s.conds.get b = false := by
      by_contra hn
      simp only [not_or, Bool.not_eq_false, not_not] at hn
      obtain ⟨rfl, h1, h2⟩ := hn
      exact hc ⟨hb, h1, h2⟩
    rw [alarmState_setCond_kept, alarmState_setCond_kept, alarmState_setCond_kept, hack]
    · exact still .pumpFail (by simp)
    · rw [setCond_conds, Conds.get_set_of_ne _ _ (by decide)]
      exact still .screenStall (by simp)
    · rw [setCond_conds, Conds.get_set_of_ne _ _ (by decide), setCond_conds, Conds.get_set_of_ne _ _ (by decide)]
      exact still .dutyRecordLost (by simp)

/-- Settles O37. -/
theorem acknowledgeMovesEveryEntry : Obligations.AcknowledgeMovesEveryEntry := by
  intro s
  refine ⟨rfl, fun h => ?_, fun h hx => ?_, fun x hx h hlaw => ?_⟩
  · simp [exec, execAckRisingEdge, h]
  · simp only [exec, execAckRisingEdge, h, Bool.false_eq_true, if_false]
    exact congrArg _ (whenLive_lines_none hx _ _)
  let l : State := { s with lines := { s.lines with ack := true } }
  have hstep : exec .ackRisingEdge s = .next (acknowledge x l) := by
    simp only [exec, execAckRisingEdge, h, Bool.false_eq_true, if_false]
    exact congrArg _ (whenLive_lines hx _ _)
  obtain ⟨hconds, -⟩ := acknowledge_alarms (x := x) (s := l) ⟨hlaw.trip, hlaw.fail⟩
  let p := ackAtPump x (ackEntries x l)
  have hp : (acknowledge x l).pump = p.pump ∧ (acknowledge x l).fouling = p.fouling ∧ (acknowledge x l).loader = p.loader := by
    simp [acknowledge, ackAtLoader, p]
  obtain ⟨hp1, hp2, hp3⟩ := hp
  have hentries : (ackEntries x l).pump = s.pump := by simp [l]
  have hentry (a : Alarm) := acknowledge_entries (x := x) (s := l) ⟨hlaw.trip, hlaw.fail⟩ a
  have hstall : p.conds.screenStall = s.conds.screenStall := by
    rw [(ackAtPump_pumpOnly x (ackEntries x l)).conds]
    simp [l]
  refine ⟨acknowledge x l, hstep, by simp [l], fun a he => ?_, fun a he ha => ?_, fun a ha he hc => ⟨?_, fun hst => ?_⟩, ?_, fun hn => ?_,
    fun hf hr => ?_, fun hf hr h1 h2 => ?_, fun hf hr hb => ?_, fun hs => ?_, fun hs => ?_, fun ha hm => ?_, ?_⟩
  · rw [hentry, if_neg (by simp [he]), if_neg (by simp [he])]
    rfl
  · rw [hentry, if_neg, if_pos he]
    · show entryAfterAck (alarmState s a) = _
      cases alarmState s a <;> rfl
    · rintro ⟨h1, -, h3⟩
      rcases ha with ⟨h4, h5, h6⟩ | ha
      · exact h1.elim h4 fun h => h.elim h5 h6
      · exact absurd h3 (by simp [l, ha])
  · rw [hconds]
    rcases ha with rfl | rfl | rfl <;> rfl
  · rw [hentry, if_pos ⟨ha, he, hc⟩]
    show entryAfterChange false (entryAfterAck (alarmState s a)) = _
    rcases hst with h | h <;> rw [h] <;> rfl
  · rw [hconds]; rfl
  · have hpl : p = ackEntries x l := if_neg (by rw [hentries]; exact hn)
    rw [hp1, hp2, hp3, hpl]
    simp [l]
  · have hpl : p = enterStopped x (ackEntries x l) := by
      simp only [p, ackAtPump]
      rw [if_pos (by rw [hentries]; exact hf), if_neg (by simp [l, hr])]
    rw [hp1, hpl]
    simp [enterStopped, ahead, l]
  · have hpl : p = takeOverRunning x (ackEntries x l) := by
      simp only [p, ackAtPump]
      rw [if_pos (by rw [hentries]; exact hf), if_pos (by simp [l, hr])]
    rw [hp1, hpl]
    exact (takeOverRunning_state x _).1 (by simpa [l] using h1) (by simpa [l] using h2)
  · have hpl : p = takeOverRunning x (ackEntries x l) := by
      simp only [p, ackAtPump]
      rw [if_pos (by rw [hentries]; exact hf), if_pos (by simp [l, hr])]
    rw [hp1, hpl]
    exact (takeOverRunning_state x _).2 (by simpa [l] using hb)
  · have hsc : p.conds.screenStall = true := by simpa [l] using hstall.trans hs
    have hd : (ackAtScreen x p).screen.drive = driveChoice (ackAtScreen x p) := by
      unfold ackAtScreen
      rw [if_pos hsc]
      simp
    have hack : acknowledge x l = setCond x .dutyRecordLost false (ackAtScreen x p) := rfl
    have hchoice : driveChoice (setCond x .dutyRecordLost false (ackAtScreen x p)) = driveChoice (ackAtScreen x p) := by
      generalize ackAtScreen x p = q
      apply driveChoice_congr <;> simp [Conds.set]
    rw [hack, hchoice, ← hd]
    simp
  · have hsc : ackAtScreen x p = p := if_neg (by rw [hstall]; simp [hs])
    have hscreen : (acknowledge x l).screen = (ackAtScreen x p).screen := by simp [acknowledge, ackAtLoader, p]
    rw [hscreen, hsc]
    simp [p, l]
  · obtain ⟨-, hann⟩ := Announced.acknowledged (x := x) l
    have hheld : Held .status (acknowledge x l) := (hann (by simpa [l] using hm)).resolve_left ha
    exact hheld.handedOver
  · apply State.eq_of_parts <;> simp [l]

end Sys2Proof.Machine
end

section
/-! PROOF. The screen controller's commands: the statements O23 to O27. -/

namespace Sys2Proof.Machine

set_option Elab.async false

/-! ### The shaft -/

/-- Settles O25. -/
theorem shaftEdgesMeasureTheScreen : Obligations.ShaftEdgesMeasureTheScreen := by
  intro s x hx
  have hstep : exec .shaftEdge s = .next (shaftRises x s) := congrArg _ (whenLive_of hx _)
  rw [hstep]
  refine ⟨fun h => ?_, fun h hd => ?_, fun h hd => ?_⟩
  · rw [shaftRises, if_neg (not_le.2 h)]
  · rw [shaftRises, if_pos h, prescaledEdge, if_pos hd]
  · have hwindow : stallWindowMs x.cfg s.screen.drive = (if s.screen.drive = .fast then x.cfg.stallFast else x.cfg.stallSlow) * 100 := by
      cases s.screen.drive <;> rfl
    rw [shaftRises, if_pos h, prescaledEdge, if_neg hd, ← hwindow]
    rfl

/-! ### The cycle -/

/-- The change to RELEASING hands a STATUS over beside the RELEASE. -/
theorem releaseClaim_status {x : Ctx} {s : State} (hw : s.screen.wash ≠ .releasing) (hm : s.link.tx ≠ .mute) :
    Held .status (releaseClaim x s) := by
  unfold releaseClaim
  refine setWash_held ?_ (offer_tx_ne_mute ?_)
  · simpa [stopWashing] using hw
  · simpa [stopWashing] using hm


/-- SPRAY turned on where it was off (R102, R108). -/
theorem sprayOn_of_off {x : Ctx} {s : State} (h : s.screen.spray = false) : sprayOn x s = { s with screen := { s.screen with
    spray := true,
    headerTimer := if s.lines.header then s.screen.headerTimer else some (s.clock + ms (x.cfg.headerDelay * 1000)) } } := by
  unfold sprayOn
  rw [if_neg (by simp [h])]
  rfl

/-- Settles O24. -/
theorem cycleTimerRunsTheWash : Obligations.CycleTimerRunsTheWash := by
  intro s x d hx ht hd n w
  let c : State := { s with screen := { s.screen with cycleTimer := some (d + ms 100), cycleCount := n } }
  have hstep : exec .cycleTimerExpiry s = .next (cycleStep x { s with screen := { s.screen with cycleTimer := some (d + ms 100) } }) :=
    congrArg _ (whenLive_due (T := fun s => s.screen.cycleTimer) hx ht hd _)
  have hfar (h1 : n ≠ s.screen.working.sprayPoint) (h2 : n = s.screen.working.period) :
      exec .cycleTimerExpiry s = .next (cycleEnd x c) := by
    rw [hstep, cycleStep]
    dsimp only
    rw [if_neg h1, if_pos h2]
  let e : State := loadWorking x { sprayOff c with screen := { (sprayOff c).screen with completed := s.screen.completed + 1 } }
  have hend : cycleEnd x c = continueWash x e := rfl
  refine ⟨fun h1 h2 => ?_, fun h1 h2 hs => ?_, fun h1 h2 hc => ?_, fun h1 h2 hc hw => ?_⟩
  · rw [hstep, cycleStep]
    dsimp only
    rw [if_neg h1, if_neg h2]
  · rw [hstep, cycleStep]
    dsimp only
    rw [if_pos h1, sprayOn_of_off (by exact hs), if_neg h2]
  · rw [hfar h1 h2, hend, continueWash_next (s := e) hc, freshCycle]
    by_cases h0 : w.sprayPoint = 0
    · rw [if_pos (by exact h0), sprayOn_of_off rfl]
      cases hl : s.lines.header <;> simp [e, c, w, hl, loadWorking, sprayOff, washSetInForce]
      all_goals exact ⟨rfl, h0⟩
    · rw [if_neg (by exact h0)]
      simp [e, c, w, loadWorking, sprayOff, washSetInForce]
      exact ⟨rfl, fun h => absurd h h0, h0⟩
  · rw [hfar h1 h2, hend, continueWash_complete (s := e) hc]
    have hwash : e.screen.wash ≠ .releasing := by simp [e, c, hw]
    obtain ⟨r1, r2, -, r3, -, r4, r5, r6, -, r7, r8, r9, r10⟩ := releaseClaim_screen (x := x) (s := e)
    refine ⟨_, rfl, r1, r10, r6, r5, r4, r3, releaseClaim_drive hwash, ?_, r7, r8, r9, fun hm => ⟨?_, ?_⟩, ?_⟩
    · exact driveMoves_congr (releaseClaim_moves (x := x) (s := e)) rfl rfl rfl
    · exact (releaseClaim_held (x := x) (s := e) hm).handedOver
    · exact (releaseClaim_status (x := x) (s := e) hwash hm).handedOver
    · apply State.eq_of_parts <;> simp [e, c]

/-! ### Trigger checks -/

/-- A claim made from IDLE (R94). -/
theorem makeClaim_made {x : Ctx} {k : ClaimClass} {s : State} (hw : s.screen.wash = .idle) :
    (makeClaim x k s).screen.wash = .claiming ∧ (makeClaim x k s).screen.tag = (s.screen.tag + 1) % 16 ∧
    (makeClaim x k s).screen.cls = k ∧ (makeClaim x k s).screen.completed = 0 ∧
    (makeClaim x k s).screen.gapTimer = s.screen.gapTimer ∧ (makeClaim x k s).screen.drive = driveChoice (makeClaim x k s) ∧
    driveMoves x s (makeClaim x k s) := by
  refine ⟨by simp [makeClaim], by simp [makeClaim], by simp [makeClaim], by simp [makeClaim], by simp [makeClaim], ?_, ?_⟩
  · unfold makeClaim
    exact setWash_drive (by simp [hw])
  · unfold makeClaim
    exact driveMoves_congr (setWash_moves x .claiming _) (by simp) (by simp [driveParts]) rfl

/-- The CLAIM of a claim made, and the STATUS of its change to CLAIMING, are handed over (R94, R109). -/
theorem makeClaim_held {x : Ctx} {k : ClaimClass} {s : State} (hw : s.screen.wash = .idle) (hm : s.link.tx ≠ .mute) :
    Held (.claim ((s.screen.tag + 1) % 16) k (claimDuration (washSetInForce x.cfg s))) (makeClaim x k s) ∧
    Held .status (makeClaim x k s) := by
  unfold makeClaim
  extract_lets tag scr t
  have htm : t.link.tx ≠ .mute := hm
  exact ⟨(setWash_told x _ .claiming).held (held_offer htm), setWash_held (by simp [t, scr, hw]) (offer_tx_ne_mute htm)⟩

/-- A trigger check is made in IDLE and OPERATING alone (R92). -/
theorem triggerCheck_none {x : Ctx} {e : TriggerEvent} {s : State}
    (h : s.screen.wash ≠ .idle ∨ s.loader.phase ≠ .operating ∨ chosenClass x.cfg e s = none) : triggerCheck x e s = s := by
  unfold triggerCheck
  split
  next hc =>
    obtain ⟨h1, h2⟩ : s.screen.wash = .idle ∧ s.loader.phase = .operating := by simpa using hc
    rw [(h.resolve_left (not_not.2 h1)).resolve_left (not_not.2 h2)]
  next => rfl

theorem triggerCheck_some {x : Ctx} {e : TriggerEvent} {s : State} {k : ClaimClass} (hw : s.screen.wash = .idle)
    (hp : s.loader.phase = .operating) (hk : chosenClass x.cfg e s = some k) : triggerCheck x e s = makeClaim x k s := by
  simp [triggerCheck, hw, hp, hk]

/-- The claim a trigger check chooses, by its triggers and their blocks (R93). -/
theorem chosenClass_cases (c : Settings) (e : TriggerEvent) (s : State) :
    (claimsBlocked s = true → chosenClass c e s = none) ∧
    (claimsBlocked s = false → urgentTrigger c e s = true → chosenClass c e s = some .urgent) ∧
    (claimsBlocked s = false → urgentTrigger c e s = false → routineTrigger c e s = true → routineBlocked s = false →
      chosenClass c e s = some .routine) ∧
    (urgentTrigger c e s = false → routineTrigger c e s = false ∨ routineBlocked s = true → chosenClass c e s = none) := by
  unfold chosenClass
  refine ⟨fun h => ?_, fun h1 h2 => ?_, fun h1 h2 h3 h4 => ?_, fun h1 h2 => ?_⟩
  · simp [h]
  · simp [h1, h2]
  · simp [h1, h2, h3, h4]
  · rcases h2 with h2 | h2 <;> simp [h1, h2]

theorem claimsBlocked_iff (s : State) : claimsBlocked s = true ↔ s.conds.screenStall = true ∨ alarmState s .screenStall ≠ .normal ∨
    s.screen.retryTimer.isSome = true ∨ s.conds.bayConflict = true := by
  simp [claimsBlocked, or_assoc]

theorem urgentTrigger_iff (c : Settings) (e : TriggerEvent) (s : State) : urgentTrigger c e s = true ↔
    (c.urgentThreshold ≤ s.fouling.index ∧ s.fouling.stale = false) ∨ (e = .swarmRise ∧ c.swarmUrgentSum ≤ s.fouling.intensity) := by
  simp [urgentTrigger]

theorem routineTrigger_iff (c : Settings) (e : TriggerEvent) (s : State) : routineTrigger c e s = true ↔
    (washThresholdInForce c s ≤ s.fouling.index ∧ s.fouling.stale = false) ∨ s.screen.intervalDue = true ∨ e = .manualWash ∨
      (e = .swarmRise ∧ s.fouling.intensity < c.swarmUrgentSum) := by
  simp [routineTrigger, or_assoc]

/-- Settles O23. -/
theorem gapExpiryChecksTheTriggers : Obligations.GapExpiryChecksTheTriggers := by
  intro s x d hx ht hd blocked urgent routine claims
  let g : State := { s with screen := { s.screen with gapTimer := none } }
  have hstep : exec .gapTimerExpiry s = .next (triggerCheck x .gapExpiry g) :=
    congrArg _ (whenLive_due (T := fun s => s.screen.gapTimer) hx ht hd _)
  have hb : claimsBlocked g = true ↔ blocked := claimsBlocked_iff g
  have hu : urgentTrigger x.cfg .gapExpiry g = true ↔ urgent := (urgentTrigger_iff ..).trans (by simp [urgent, g])
  have hr : routineTrigger x.cfg .gapExpiry g = true ↔ routine := (routineTrigger_iff ..).trans (by simp [routine, washThresholdInForce, g])
  have hrb : routineBlocked g = true ↔ s.ladder.stage = .isolated := by simp [routineBlocked, g]
  obtain ⟨c1, c2, c3, c4⟩ := chosenClass_cases x.cfg .gapExpiry g
  have made (k : ClaimClass) (hw : s.screen.wash = .idle) (hp : s.loader.phase = .operating)
      (hk : chosenClass x.cfg .gapExpiry g = some k) : claims k (makeClaim x k g) := by
    obtain ⟨m1, m2, m3, m4, m5, m6, m7⟩ := makeClaim_made (x := x) (k := k) (s := g) hw
    refine ⟨by rw [hstep, triggerCheck_some (s := g) hw hp hk], m1, m2, m3, m4, m5, m6, ?_, fun hm => ?_, ?_⟩
    · exact driveMoves_congr m7 rfl rfl rfl
    · obtain ⟨h1, h2⟩ := makeClaim_held (x := x) (k := k) (s := g) hw hm
      exact ⟨h1.handedOver, h2.handedOver⟩
    · apply State.eq_of_parts <;> simp [g]
  refine ⟨fun h => ?_, fun hw hp h1 h2 => ⟨_, made .urgent hw hp (c2 ?_ (hu.2 h2))⟩,
    fun hw hp h1 h2 h3 h4 => ⟨_, made .routine hw hp (c3 ?_ ?_ (hr.2 h3) ?_)⟩⟩
  · rw [hstep, triggerCheck_none (s := g)]
    refine h.imp id fun h => h.imp id fun h => ?_
    rcases h with h | ⟨h1, h2⟩
    · exact c1 (hb.2 h)
    · exact c4 (Bool.eq_false_iff.2 fun h => h1 (hu.1 h)) (h2.imp (fun h2 => Bool.eq_false_iff.2 fun h => h2 (hr.1 h)) hrb.2)
  · exact Bool.eq_false_iff.2 fun h => h1 (hb.1 h)
  · exact Bool.eq_false_iff.2 fun h => h1 (hb.1 h)
  · exact Bool.eq_false_iff.2 fun h => h2 (hu.1 h)
  · exact Bool.eq_false_iff.2 fun h => h4 (hrb.1 h)

/-! ### Aborts -/

section
variable {x : Ctx} {s : State}

theorem claim_waits_iff (tag : Nat) (q : List TxFrame) : q.any (isClaimOf tag) = true ↔ ∃ k n, .claim tag k n ∈ q := by
  rw [List.any_eq_true]
  constructor
  · rintro ⟨f, hf, hc⟩
    cases f with
    | claim t k n =>
      obtain rfl : t = tag := by simpa [isClaimOf] using hc
      exact ⟨k, n, hf⟩
    | status => simp [isClaimOf] at hc
    | release t => simp [isClaimOf] at hc
  · rintro ⟨k, n, h⟩
    exact ⟨_, h, by simp [isClaimOf]⟩

/-- No wash to abort (R98). -/
theorem abortWash_none (h : s.screen.wash = .idle ∨ s.screen.wash = .releasing) : abortWash x s = s := by
  unfold abortWash
  rcases h with h | h <;> rw [h]

/-- A wash under a claim that the list may hold is ended by a RELEASE (R98). -/
theorem abortWash_releases (h : s.screen.wash = .waiting ∨ s.screen.wash = .washing ∨ s.screen.wash = .yielded ∨
    (s.screen.wash = .claiming ∧ ¬∃ k n, .claim s.screen.tag k n ∈ s.link.queue)) : abortWash x s = releaseClaim x s := by
  unfold abortWash
  rcases h with h | h | h | ⟨h, hq⟩ <;> rw [h]
  rw [← claim_waits_iff] at hq
  simp [hq]

/-- A claim whose CLAIM still waits is cancelled in the queue (R98, R159). -/
theorem abortWash_cancels (h : s.screen.wash = .claiming) (hq : ∃ k n, .claim s.screen.tag k n ∈ s.link.queue) :
    abortWash x s = setWash x .idle
      { s with link := { s.link with queue := s.link.queue.filter fun f => !isClaimOf s.screen.tag f } } := by
  unfold abortWash
  rw [h]
  exact if_pos ((claim_waits_iff _ _).2 hq)

/-- What waits after an offer waited before it or is the frame offered. -/
theorem mem_queue_of_offer {f g : TxFrame} (h : f ∈ (offer x g s).link.queue) : f ∈ s.link.queue ∨ f = g := by
  unfold offer takeNext at h
  split_ifs at h
  · exact .inl h
  · exact .inl h
  · split at h
    next hq =>
      have hm : f ∈ s.link.queue ++ [g] := by
        simp only at hq
        rw [hq]
        exact List.mem_cons_of_mem _ h
      simpa using hm
    next => simpa using h

theorem cancelled_gone (h : s.screen.wash = .claiming) : ¬∃ k n, TxFrame.claim s.screen.tag k n ∈ (setWash x .idle
    { s with link := { s.link with queue := s.link.queue.filter fun f => !isClaimOf s.screen.tag f } }).link.queue := by
  rintro ⟨k, n, hq⟩
  rw [setWash_ne (by simp [h])] at hq
  rcases mem_queue_of_offer hq with hq | hq
  · simp [isClaimOf] at hq
  · cases hq

/-- An entry moved by an alarm takes back no frame. -/
theorem annunciate_held {a : Alarm} {v : Bool} {f : TxFrame} (h : Held f s) : Held f (annunciate x a v s) := by
  unfold annunciate
  dsimp only
  split
  · exact Held.offer h
  · exact h

theorem mem_queue_of_annunciate {a : Alarm} {v : Bool} {f : TxFrame} (h : f ∈ (annunciate x a v s).link.queue) :
    f ∈ s.link.queue ∨ f = .status := by
  unfold annunciate at h
  dsimp only at h
  split at h
  · exact mem_queue_of_offer (s := { s with alarms := s.alarms.set a.index (entryAfterChange v (alarmState s a)) }) h
  · exact .inl h

/-- An abort moves the drive as the choice of the wash state it comes to. -/
theorem abortWash_drive (h : s.screen.drive = driveChoice s) : (abortWash x s).screen.drive = driveChoice (abortWash x s) := by
  cases hw : s.screen.wash with
  | idle | releasing => rw [abortWash_none (by simp [hw])]; exact h
  | waiting | washing | yielded => rw [abortWash_releases (by simp [hw])]; exact releaseClaim_drive (by simp [hw])
  | claiming =>
    by_cases hq : ∃ k n, .claim s.screen.tag k n ∈ s.link.queue
    · rw [abortWash_cancels hw hq]; exact setWash_drive (by simp [hw])
    · rw [abortWash_releases (.inr (.inr (.inr ⟨hw, hq⟩)))]; exact releaseClaim_drive (by simp [hw])

@[simp] theorem abortWash_screen_kept : (abortWash x s).screen.tag = s.screen.tag ∧ (abortWash x s).screen.cls = s.screen.cls ∧
    (abortWash x s).screen.retryTimer = s.screen.retryTimer ∧ (abortWash x s).screen.gapTimer = s.screen.gapTimer ∧
    (abortWash x s).screen.intervalTimer = s.screen.intervalTimer := by
  unfold abortWash
  split
  · simp
  · simp
  · split
    · simp
    · simp [releaseClaim_screen]
  all_goals simp [releaseClaim_screen]

theorem abortWash_moves : driveMoves x s (abortWash x s) := by
  unfold abortWash
  split
  · exact driveMoves_refl x s
  · exact driveMoves_refl x s
  · split
    · exact driveMoves_congr (setWash_moves x .idle { s with link := { s.link with
        queue := s.link.queue.filter fun f => !isClaimOf s.screen.tag f } }) rfl rfl rfl
    · exact releaseClaim_moves
  all_goals exact releaseClaim_moves

end

/-- A header timer stopped is not started by an abort. -/
theorem abortWash_headerTimer {x : Ctx} {s : State} (h : s.screen.headerTimer = none) : (abortWash x s).screen.headerTimer = none := by
  unfold abortWash
  split
  · exact h
  · exact h
  · split
    · simpa using h
    · simp [releaseClaim_screen]
  all_goals simp [releaseClaim_screen]

/-- A stalled screen is driven off (R103). -/
theorem driveChoice_stalled {s : State} (h : s.conds.screenStall = true) : driveChoice s = .off := by
  simp [driveChoice, h]

/-- A drive off that stays off leaves no stall window behind. -/
theorem stallTimer_of_off {x : Ctx} {s t : State} (h : driveMoves x s t) (hs : s.screen.drive = .off → s.screen.stallTimer = none)
    (ht : t.screen.drive = .off) : t.screen.stallTimer = none := by
  obtain ⟨h1, h2, -⟩ := h
  by_cases he : t.screen.drive = s.screen.drive
  · rw [h1 he]; exact hs (he ▸ ht)
  · rw [h2 he, if_pos ht]

/-- Settles O26. -/
theorem stallStopsTheScreen : Obligations.StallStopsTheScreen := by
  intro s x d hx ht hd hstall
  let c : State := { s with screen := { s.screen with stallTimer := none } }
  let v : State := selectDrive x { c with conds := { c.conds with screenStall := true } }
  have hstep : exec .stallTimerExpiry s = .next (stallRises x c) :=
    congrArg _ (whenLive_due (T := fun s => s.screen.stallTimer) hx ht hd _)
  have hrise : stallRises x c = annunciate x .screenStall true (abortWash x v) := by
    unfold stallRises
    dsimp only
    rw [if_neg (by simp [c, hstall])]
  obtain ⟨hconds, halarms⟩ := stallRises_alarms x c
  have hscreen : (stallRises x c).screen = (abortWash x v).screen := by rw [hrise]; simp
  have hvc : v.conds.screenStall = true := by simp [v]
  have hvd : v.screen.drive = .off := by rw [← driveChoice_stalled hvc]; simp [v]
  have hvt : v.screen.stallTimer = none :=
    stallTimer_of_off (selectDrive_moves x { c with conds := { c.conds with screenStall := true } }) (fun _ => rfl) hvd
  have had : (abortWash x v).screen.drive = .off := by
    rw [abortWash_drive (hvd.trans (driveChoice_stalled hvc).symm), driveChoice_stalled]
    simp [hvc]
  have hvw : v.screen.wash = s.screen.wash := by simp [v, c]
  have hvtag : v.screen.tag = s.screen.tag := by simp [v, c]
  have hvl : v.link = s.link := by simp [v, c]
  have hheld (ha : abortWash x v = releaseClaim x v) (hm : s.link.tx ≠ .mute) : handedOver (.release s.screen.tag) (stallRises x c) := by
    rw [hrise, ha, ← hvtag]
    exact (annunciate_held (releaseClaim_held (by rw [hvl]; exact hm))).handedOver
  obtain ⟨r1, -, -, -, -, r2, r3, r4, -, -, -, -, r5⟩ := releaseClaim_screen (x := x) (s := v)
  refine ⟨stallRises x c, hstep, hconds.trans ?_, by rw [hscreen, had], ?_, fun he hn => ?_, fun a ha => ?_, fun hw => ?_, fun hw => ?_,
    fun hw hq => ⟨?_, ?_⟩, fun hw hq => ?_, ?_, ?_, ?_, ?_, ?_, ?_⟩
  · simp [c, Conds.set]
  · rw [hscreen]
    exact stallTimer_of_off abortWash_moves (fun _ => hvt) had
  · have hn' : alarmState c .screenStall = .normal := hn
    rw [alarmState_congr halarms, alarmState_setCond, if_pos ⟨rfl, he, by simp [c, Conds.get, hstall]⟩, hn']
    rfl
  · rw [alarmState_congr halarms, alarmState_setCond, if_neg fun h => ha h.1.symm]
    rfl
  · rw [hscreen, abortWash_none (by rwa [hvw]), hvw]
  · have ha := abortWash_releases (x := x) (s := v) (by rw [hvw]; exact hw.imp id (Or.imp id .inl))
    rw [hscreen, ha]
    exact ⟨r1, r5, r4, r3, r2, hheld ha⟩
  · rw [hscreen, abortWash_cancels (hvw.trans hw) (by rw [hvtag, hvl]; exact hq)]
    simp
  · rw [hrise, abortWash_cancels (hvw.trans hw) (by rw [hvtag, hvl]; exact hq), ← hvtag]
    rintro ⟨k, n, hq'⟩
    rcases mem_queue_of_annunciate hq' with h | h
    · exact cancelled_gone (x := x) (s := v) (hvw.trans hw) ⟨k, n, h⟩
    · cases h
  · have ha := abortWash_releases (x := x) (s := v) (.inr (.inr (.inr ⟨hvw.trans hw, by rw [hvtag, hvl]; exact hq⟩)))
    exact ⟨by rw [hscreen, ha, r1], hheld ha⟩
  · rw [hscreen]; simp [v, c]
  · rw [hscreen]; simp [v, c]
  · rw [hscreen]; simp [v, c]
  · rw [hscreen]; simp [v, c]
  · rw [hscreen]; simp [v, c]
  · apply State.eq_of_parts <;> simp [c]

/-! ### The header -/

/-- Settles O27. -/
theorem headerSupervisionAbortsAndRetries : Obligations.HeaderSupervisionAbortsAndRetries := by
  intro s
  refine ⟨fun h hx => ?_, fun h hx => ?_, fun x hx => ⟨fun h hs => ?_, fun h hs => ?_, fun h => ?_, fun d hd => ⟨fun ht hf => ?_, fun ht => ?_⟩⟩⟩
  · simp only [exec, execHeaderOpens, h, if_true]
    exact congrArg _ (whenLive_lines_none hx _ _)
  · simp only [exec, execHeaderCloses, h, Bool.false_eq_true, if_false]
    exact congrArg _ (whenLive_lines_none hx _ _)
  · simp only [exec, execHeaderOpens, h, if_true]
    exact congrArg _ ((whenLive_lines hx _ _).trans (if_pos hs))
  · simp only [exec, execHeaderOpens, h, if_true]
    exact congrArg _ ((whenLive_lines hx _ _).trans (if_neg (by simp [hs])))
  · simp only [exec, execHeaderCloses, h, Bool.false_eq_true, if_false]
    exact congrArg _ (whenLive_lines hx _ _)
  · let c : State := { s with screen := { s.screen with headerTimer := none } }
    let a : State := { abortWash x c with screen := { (abortWash x c).screen with
      retryTimer := ahead (abortWash x c) (x.cfg.washRetry * 60000) } }
    have hstep : exec .headerTimerExpiry s = .next (setCond x .washWaterFail true a) :=
      congrArg _ (whenLive_due (T := fun s => s.screen.headerTimer) hx ht hd _)
    have hac : a.conds = s.conds := by simp [a, c]
    have hal : a.alarms = s.alarms := by simp [a, c]
    refine ⟨_, hstep, ?_, ?_, ?_, fun he hn => ?_, fun hw => ?_, fun hw => ?_, ?_⟩
    · rw [setCond_conds, hac]; rfl
    · simp [a, c, ahead]
    · simp only [setCond_frame, a]
      exact abortWash_headerTimer rfl
    · rw [alarmState_setCond, if_pos ⟨rfl, he, by rw [hac]; simp [Conds.get, hf]⟩, alarmState_congr hal, hn]
      rfl
    · have ha : abortWash x c = releaseClaim x c := abortWash_releases (.inr (.inl hw))
      obtain ⟨r1, -, -, -, -, -, r3, -, -, -, -, -, r5⟩ := releaseClaim_screen (x := x) (s := c)
      refine ⟨?_, ?_, ?_, ?_, fun hm => ?_⟩
      · simp only [setCond_frame, a, ha, r1]
      · simp only [setCond_frame, a, ha, r5]
      · simp only [setCond_frame, a, ha, r3]
      · have hd : a.screen.drive = driveChoice (releaseClaim x c) := by
          simp only [a, ha]
          exact releaseClaim_drive (by simp [c, hw])
        have hc : driveChoice (setCond x .washWaterFail true a) = driveChoice (releaseClaim x c) := by
          apply driveChoice_congr <;> simp [a, ha, Conds.set]
        rw [hc, ← hd]
        simp
      · have hheld : Held (.release s.screen.tag) a :=
          (releaseClaim_held (x := x) (s := c) hm).of_link (by simp only [a, ha])
        exact ((Told.cond (x := x) (w := false) .washWaterFail true a (by decide)).held hheld).handedOver
    · have ha : abortWash x c = c := abortWash_none hw
      simp only [setCond_frame, a, ha, c]
    · apply State.eq_of_parts <;> simp [a, c]
  · let c : State := { s with screen := { s.screen with retryTimer := none } }
    have hstep : exec .retryTimerExpiry s = .next (setCond x .washWaterFail false c) :=
      congrArg _ (whenLive_due (T := fun s => s.screen.retryTimer) hx ht hd _)
    refine ⟨_, hstep, by simp [c], ?_, fun a ha => ?_, fun hf he => ⟨fun hst => ?_, fun hst => ?_⟩, ?_⟩
    · rw [setCond_conds]; rfl
    · refine (alarmState_setCond_kept ?_).trans rfl
      exact ha.imp Ne.symm .inr
    · have hst' : alarmState c .washWaterFail = .unack := hst
      rw [alarmState_falls (x := x) (a := .washWaterFail) (s := c) he hf, hst']
      rfl
    · have hst' : alarmState c .washWaterFail = .acked := hst
      rw [alarmState_falls (x := x) (a := .washWaterFail) (s := c) he hf, hst']
      rfl
    · apply State.eq_of_parts <;> simp [c]

end Sys2Proof.Machine
end

section
/-! PROOF. The claim list's commands: the statements O20, O21 and O22. -/

namespace Sys2Proof.Machine

set_option Elab.async false

/-! ### A list moved -/

section
variable {x : Ctx} {s s' t : State} {l : List Claim}

/-- A start of a wash told from an earlier state, which differs in nothing the start turns on. -/
theorem washStarts.before (h : washStarts x s t) (hclock : s'.clock = s.clock) (hscreen : s'.screen = s.screen)
    (hsurge : s'.conds.surge = s.conds.surge) (hm : s'.link.tx ≠ .mute → s.link.tx ≠ .mute) : washStarts x s' t := by
  refine washStarts_congr h hclock hscreen hsurge rfl rfl ?_
  by_cases hc : s.screen.completed < (washSetInForce x.cfg s).cycles
  · exact .inl hc
  by_cases ht : s'.link.tx = .mute
  · exact .inr (.inl ht)
  · obtain ⟨-, -, -, -, -, h6⟩ := h
    exact .inr (.inr ((h6 (not_lt.1 hc)).2.2.2 (hm ht)))

theorem changeList_claims : (changeList x l s).claims = (listed x l s).claims := by
  by_cases hs : standingIn x l = standingIn x s.claims.entries
  · rw [changeList_same hs]
  · rw [changeList_moved hs]; simp

/-- A change of the list moves the list, the screen controller and the frames handed over alone. -/
theorem changeList_eq : changeList x l s = { s with
    claims := (changeList x l s).claims, screen := (changeList x l s).screen, link := (changeList x l s).link } := by
  apply State.eq_of_parts <;> simp

/-- An own claim that waits and comes into range begins its wash (R95, R96). -/
theorem changeList_starts (hw : s.screen.wash = .waiting ∨ s.screen.wash = .yielded)
    (hb : standingIn x s.claims.entries = .beyondRange) (hi : standingIn x l = .inRange) :
    washStarts x s (changeList x l s) := by
  have hne : s.screen.wash ≠ .washing := by rcases hw with hw | hw <;> simp [hw]
  rw [changeList_moved (by simp [hb, hi]), hi, handStanding_inRange (s := listed x l s) (.inr hw)]
  exact (enterWashing_starts (s := listed x l s) hne).before rfl rfl rfl id

/-- An own claim that leaves the range under a wash yields it, with its cycles kept (R96). -/
theorem changeList_yields (hw : s.screen.wash = .washing) (hi : standingIn x s.claims.entries = .inRange)
    (hb : standingIn x l = .beyondRange) :
    (changeList x l s).screen.wash = .yielded ∧ (changeList x l s).screen.spray = false ∧
    (changeList x l s).screen.cycleTimer = none ∧ (changeList x l s).screen.completed = s.screen.completed := by
  rw [changeList_moved (by simp [hb, hi]), hb, handStanding_yields (s := listed x l s) hw]
  simp [yieldWash, stopWashing, listed]

/-! ### The range expiry -/

/-- What a selection from a list keeps comes from the same place or a later one. -/
theorem getElem?_filterMap_zipIdx {α β : Type} (g : α × Nat → Option β) (l : List α) (k j : Nat) {y : β}
    (h : ((l.zipIdx k).filterMap g)[j]? = some y) : ∃ i e, j ≤ i ∧ l[i]? = some e ∧ g (e, k + i) = some y := by
  induction l generalizing k j with
  | nil => simp at h
  | cons a l ih =>
    rw [List.zipIdx_cons, List.filterMap_cons] at h
    cases hg : g (a, k) with
    | none =>
      rw [hg] at h
      obtain ⟨i, e, hi, he, hy⟩ := ih (k + 1) j h
      exact ⟨i + 1, e, by omega, he, by rwa [← Nat.add_assoc, Nat.add_right_comm]⟩
    | some b =>
      rw [hg] at h
      cases j with
      | zero => exact ⟨0, a, le_refl 0, rfl, by simpa [hg] using h⟩
      | succ j =>
        obtain ⟨i, e, hi, he, hy⟩ := ih (k + 1) j h
        exact ⟨i + 1, e, by omega, he, by rwa [← Nat.add_assoc, Nat.add_right_comm]⟩

/-- A list made by keeping entries of one in order, and leaving its own entries and those beyond the range as they were, is in order:
its entries only move up. -/
theorem regraded_selected {g : Claim × Nat → Option Claim} (h : l = regraded x l) (hb : ∀ p y, g p = some y → y.bay = p.1.bay)
    (hk : ∀ p y, g p = some y → ¬(p.2 < x.cfg.washHeaders ∧ p.1.bay ≠ x.bay) → y = p.1) :
    regraded x (l.zipIdx.filterMap g) = l.zipIdx.filterMap g := by
  refine List.ext_getElem? fun j => ?_
  rw [regraded_getElem?]
  cases hj : (l.zipIdx.filterMap g)[j]? with
  | none => rfl
  | some y =>
    rw [Option.map_some]
    split
    next => rfl
    next hout =>
      obtain ⟨i, e, hji, he, hy⟩ := getElem?_filterMap_zipIdx _ _ _ _ hj
      rw [Nat.zero_add] at hy
      by_cases hin : i < x.cfg.washHeaders ∧ e.bay ≠ x.bay
      · exact absurd ⟨by omega, by rw [hb _ _ hy]; exact hin.2⟩ hout
      · obtain rfl := hk _ _ hy hin
        have hr := congrArg (·[i]?) h
        simp only [regraded_getElem?, he, Option.map_some, if_neg hin] at hr
        exact congrArg some (Option.some.inj hr).symm

theorem regraded_filter {q : Claim → Bool} (h : l = regraded x l) : regraded x (l.filter q) = l.filter q := by
  have hl : l.filter q = l.zipIdx.filterMap fun p => if q p.1 then some p.1 else none := by
    conv_lhs => rw [← List.zipIdx_map_fst 0 l]
    rw [← List.filterMap_eq_filter, List.filterMap_map]
    refine List.filterMap_congr fun p _ => ?_
    by_cases hp : q p.1 <;> simp [hp]
  rw [hl]
  refine regraded_selected h (fun p y hy => ?_) fun p y hy _ => ?_ <;>
    · simp only [Option.ite_none_right_eq_some, Option.some.injEq] at hy
      rw [← hy.2]

/-- One entry at a range expiry: counted one unit in the grant range, and removed past its limit (R84). -/
def afterRange (x : Ctx) (p : Claim × Nat) : Option Claim :=
  if p.2 < x.cfg.washHeaders ∧ p.1.bay ≠ x.bay then
    if p.1.duration + 10 * x.cfg.claimMargin < min (p.1.inRange + 1) 65535 then none
    else some { p.1 with inRange := min (p.1.inRange + 1) 65535 }
  else some p.1

theorem afterRangeExpiry_filterMap (l : List Claim) : afterRangeExpiry x l = l.zipIdx.filterMap (afterRange x) := by
  rw [afterRangeExpiry_eq, ← List.filterMap_eq_map, ← List.filterMap_eq_filter, List.filterMap_filterMap]
  refine List.filterMap_congr fun p _ => ?_
  by_cases hr : p.2 < x.cfg.washHeaders ∧ p.1.bay ≠ x.bay
  · by_cases ho : p.1.duration + 10 * x.cfg.claimMargin < min (p.1.inRange + 1) 65535 <;>
      simp [afterRange, overLimit, countedInRange, inGrantRange, hr, ho]
  · rw [afterRange, if_neg hr]
    simp only [not_and_or, not_lt, not_not] at hr
    rcases hr with hr | hr <;> simp [overLimit, countedInRange, inGrantRange, hr]

theorem regraded_afterRangeExpiry (h : l = regraded x l) : regraded x (afterRangeExpiry x l) = afterRangeExpiry x l := by
  rw [afterRangeExpiry_filterMap]
  refine regraded_selected h (fun p y hy => ?_) fun p y hy hout => ?_
  · unfold afterRange at hy
    split_ifs at hy <;> cases hy <;> rfl
  · rw [afterRange, if_neg hout] at hy
    exact (Option.some.inj hy).symm

end

/-- Settles O20. -/
theorem rangeExpiryCountsAndExpires : Obligations.RangeExpiryCountsAndExpires := by
  intro s x d h hx ht hd
  let c : State := { s with claims := { s.claims with rangeTimer := rearmed d 100 } }
  let l := afterRangeExpiry x s.claims.entries
  have hreg : regraded x l = l := regraded_afterRangeExpiry (h.timed x hx)
  have hent : (changeList x l c).claims.entries = l := by rw [changeList_entries, hreg]
  have hstep : exec .rangeTimerExpiry s = .next (changeList x l c) :=
    congrArg _ (whenLive_due (T := fun s => s.claims.rangeTimer) hx ht hd _)
  refine ⟨_, hstep, ?_, ?_, fun hs => ?_, fun hw hb hi => ?_, ?_⟩
  · rw [changeList_claims]; rfl
  · rw [hent]; exact afterRangeExpiry_filterMap _
  · rw [hent] at hs
    rw [changeList_same (s := c) hs]
    exact ⟨rfl, rfl⟩
  · rw [hent] at hi
    exact (changeList_starts (s := c) hw hb hi).before rfl rfl rfl id
  · rw [changeList_eq (s := c)]

/-! ### The receiver -/

section
variable {x : Ctx} {s : State}

@[simp] theorem offerStatus_receiver : (offerStatus x s).link.receiver = s.link.receiver := (offer_link_kept x _ s).1

@[simp] theorem setWash_receiver (w : WashState) : (setWash x w s).link.receiver = s.link.receiver := by
  unfold setWash
  split <;> simp

@[simp] theorem releaseClaim_receiver : (releaseClaim x s).link.receiver = s.link.receiver := by
  simp [releaseClaim, stopWashing]

@[simp] theorem continueWash_receiver : (continueWash x s).link.receiver = s.link.receiver := by
  unfold continueWash
  split <;> simp

@[simp] theorem enterWashing_receiver : (enterWashing x s).link.receiver = s.link.receiver := by
  simp [enterWashing]

@[simp] theorem handStanding_receiver (st : Standing) : (handStanding x st s).link.receiver = s.link.receiver := by
  unfold handStanding
  split <;> simp [yieldWash, stopWashing]

@[simp] theorem changeList_receiver (l : List Claim) : (changeList x l s).link.receiver = s.link.receiver := by
  unfold changeList
  dsimp only
  split <;> simp

@[simp] theorem removeClaim_receiver (b : Bay) : (removeClaim x b s).link.receiver = s.link.receiver := by
  unfold removeClaim
  split <;> simp

@[simp] theorem removeReleased_receiver (b : Bay) (tag : Nat) : (removeReleased x b tag s).link.receiver = s.link.receiver := by
  unfold removeReleased
  split <;> simp

@[simp] theorem insertClaim_receiver (b : Bay) (tag : Nat) (k : ClaimClass) (d : Nat) :
    (insertClaim x b tag k d s).link.receiver = s.link.receiver := by
  simp [insertClaim]

@[simp] theorem repairFromStatus_receiver (b : Bay) (r : Report) : (repairFromStatus x b r s).link.receiver = s.link.receiver := by
  unfold repairFromStatus
  repeat' split
  all_goals simp

@[simp] theorem triggerCheck_receiver (e : TriggerEvent) : (triggerCheck x e s).link.receiver = s.link.receiver := by
  unfold triggerCheck makeClaim
  repeat' split
  all_goals simp

@[simp] theorem setPump_receiver (p : PumpState) : (setPump x p s).link.receiver = s.link.receiver := by
  unfold setPump
  split <;> simp

@[simp] theorem ackEntries_receiver : (ackEntries x s).link.receiver = s.link.receiver := by
  unfold ackEntries
  dsimp only
  split <;> simp

@[simp] theorem takeOverRunning_receiver : (takeOverRunning x s).link.receiver = s.link.receiver := by
  unfold takeOverRunning protectOnEntry
  split <;> simp [enterStopping, issuePulse]

@[simp] theorem ackAtPump_receiver : (ackAtPump x s).link.receiver = s.link.receiver := by
  unfold ackAtPump
  split_ifs <;> simp [enterStopped]

@[simp] theorem ackAtScreen_receiver : (ackAtScreen x s).link.receiver = s.link.receiver := by
  unfold ackAtScreen
  split <;> simp

@[simp] theorem acknowledge_receiver : (acknowledge x s).link.receiver = s.link.receiver := by
  simp [acknowledge, ackAtLoader]

end

/-! ### The return to LINKED -/

section
variable {x : Ctx} {s : State}

theorem returnToLinked_eq : returnToLinked x s = if s.ladder.stage = .linked then { s with ladder := ⟨0, .linked⟩ }
    else setCond x .linkIsolated false (offerStatus x { s with ladder := ⟨0, .linked⟩ }) := by
  by_cases h : s.ladder.stage = .linked
  · rw [returnToLinked, setStage, if_pos h, if_pos h, ← h]
  · rw [returnToLinked, setStage, if_neg h, if_neg h]
    rfl

/-- The ladder's return touches no block but the annunciator and the link interface (R32, R34). -/
theorem returnToLinked_kept : (returnToLinked x s).choices = s.choices ∧ (returnToLinked x s).fouling = s.fouling ∧
    (returnToLinked x s).claims = s.claims ∧ (returnToLinked x s).screen = s.screen ∧ (returnToLinked x s).pump = s.pump ∧
    (returnToLinked x s).loader = s.loader ∧ (returnToLinked x s).link.receiver = s.link.receiver := by
  rw [returnToLinked_eq]
  split <;> simp [offerStatus]

theorem returnToLinked_conds : (returnToLinked x s).conds =
    { s.conds with linkIsolated := s.conds.linkIsolated && decide (s.ladder.stage = .linked) } := by
  rw [returnToLinked_eq]
  split
  next h => simp [h]
  next h => simp [h, Conds.set]

theorem returnToLinked_mute (h : s.link.tx ≠ .mute) : (returnToLinked x s).link.tx ≠ .mute := by
  rw [returnToLinked_eq]
  split
  · exact h
  · exact (Told.cond (w := false) .linkIsolated false _ (by decide)).not_mute (offer_tx_ne_mute (s := { s with ladder := ⟨0, .linked⟩ }) h)

/-- A change of stage hands a STATUS over (R31). -/
theorem returnToLinked_held (h : s.ladder.stage ≠ .linked) (hm : s.link.tx ≠ .mute) : Held .status (returnToLinked x s) := by
  rw [returnToLinked_eq, if_neg h]
  exact (Told.cond (w := false) .linkIsolated false _ (by decide)).held (held_offer (s := { s with ladder := ⟨0, .linked⟩ }) hm)

end

/-! ### The frames of the foreign bays -/

/-- The state in which a foreign frame finds the table: the receiver in WAIT IDLE and the ladder returned (R32, R155). -/
def heard (x : Ctx) (s : State) : State := returnToLinked x { s with link := { s.link with receiver := .waitIdle } }

section
variable {x : Ctx} {s : State} {f : Frame} {b : Bay}

theorem fromBay_own {own : State → State} {foreign : Bay → State → State} (hb : bayOfByte f.bay = some b) (h : b = x.bay) :
    fromBay x f own foreign s = own s := by
  simp [fromBay, hb, h]

theorem fromBay_foreign {own : State → State} {foreign : Bay → State → State} (hb : bayOfByte f.bay = some b) (h : b ≠ x.bay) :
    fromBay x f own foreign s = foreign b (returnToLinked x s) := by
  simp [fromBay, hb, h]

@[simp] theorem heard_frame : (heard x s).pending = s.pending ∧ (heard x s).choices = s.choices ∧ (heard x s).inReset = s.inReset ∧
    (heard x s).clock = s.clock ∧ (heard x s).lines = s.lines ∧ (heard x s).front = s.front ∧ (heard x s).peers = s.peers ∧
    (heard x s).ageingTimer = s.ageingTimer ∧ (heard x s).order = s.order ∧ (heard x s).ladder = ⟨0, .linked⟩ ∧
    (heard x s).tide = s.tide ∧ (heard x s).fouling = s.fouling ∧ (heard x s).claims = s.claims ∧
    (heard x s).screen = s.screen ∧ (heard x s).duty = s.duty ∧ (heard x s).pump = s.pump ∧ (heard x s).loader = s.loader ∧
    (heard x s).link.receiver = .waitIdle ∧
    (heard x s).conds = { s.conds with linkIsolated := s.conds.linkIsolated && decide (s.ladder.stage = .linked) } := by
  simp [heard, returnToLinked_kept, returnToLinked_conds]

theorem heard_mute (h : s.link.tx ≠ .mute) : (heard x s).link.tx ≠ .mute :=
  returnToLinked_mute (s := { s with link := { s.link with receiver := .waitIdle } }) h

/-- The state in which the claim list takes a foreign CLAIM or RELEASE (R24). -/
theorem refreshed_frame : (refreshEntry b (heard x s)).screen = s.screen ∧ (refreshEntry b (heard x s)).claims = s.claims ∧
    (refreshEntry b (heard x s)).peers = (if s.peers[b].presence = .present then s.peers.set b { s.peers[b] with age := 0 } else s.peers) ∧
    (refreshEntry b (heard x s)).clock = s.clock ∧ (refreshEntry b (heard x s)).conds.surge = s.conds.surge ∧
    (refreshEntry b (heard x s)).ladder = ⟨0, .linked⟩ ∧ (refreshEntry b (heard x s)).link.receiver = .waitIdle ∧
    (s.link.tx ≠ .mute → (refreshEntry b (heard x s)).link.tx ≠ .mute) := by
  simp only [refreshEntry_frame, heard_frame, true_and]
  refine ⟨?_, heard_mute⟩
  unfold refreshEntry
  split_ifs <;> simp_all

/-- A RELEASE of a listed claim of its tag is a change of the list (R77). -/
theorem removeReleased_held {tag : Nat} {e : Claim} (he : e ∈ s.claims.entries) (hb : e.bay = b) (ht : e.tag = tag) :
    removeReleased x b tag s = changeList x (withoutBay b s.claims.entries) s := by
  have h1 : holdsClaim b tag s = true := by
    simp only [holdsClaim, List.any_eq_true]
    exact ⟨e, he, by simp [hb, ht]⟩
  have h2 : s.claims.entries.any (fun e => e.bay = b) = true := List.any_eq_true.2 ⟨e, he, by simp [hb]⟩
  rw [removeReleased, if_pos h1, removeClaim, if_pos h2]

end

/-- Settles O22. -/
theorem releaseFrameRemovesTheClaim : Obligations.ReleaseFrameRemovesTheClaim := by
  intro s x f b hx hw htx hf hk hb
  have hstep : exec (.releaseFrame f) s = .next (fromBay x f id (fun b s => takeRelease x b f.payload s)
      { s with link := { s.link with receiver := .waitIdle } }) := congrArg Host.Outcome.next (hearFrame_takes hx hw htx hf hk _)
  by_cases hown : b = x.bay
  · rw [fromBay_own hb hown] at hstep
    exact ⟨_, hstep, rfl, fun _ => rfl, fun h => absurd hown h⟩
  rw [fromBay_foreign hb hown] at hstep
  let u := refreshEntry b (heard x s)
  change _ = Host.Outcome.next (removeReleased x b (byteAt f.payload 0) u) at hstep
  obtain ⟨hscreen, hclaims, hpeers, hclock, hsurge, -, -, hmute⟩ := refreshed_frame (x := x) (s := s) (b := b)
  refine ⟨_, hstep, by simp [u], fun h => absurd h hown, fun _ => ⟨?_, ?_, ?_, ?_, ?_, ?_, ?_⟩⟩
  · simp [u]
  · intro hp
    simp only [removeReleased_frame]
    exact hpeers.trans (if_pos hp)
  · intro hp
    simp only [removeReleased_frame]
    exact hpeers.trans (if_neg hp)
  · rintro ⟨e, he, heb, het⟩
    rw [removeReleased_held (s := u) (e := e) (hclaims ▸ he) heb het, changeList_entries, hclaims]
    rfl
  · intro hall
    rw [removeReleased_of_not_holds (s := u) (by rwa [hclaims])]
    exact ⟨hclaims, hscreen⟩
  · intro hwash hbeyond hin
    by_cases hheld : ∃ e ∈ s.claims.entries, e.bay = b ∧ e.tag = byteAt f.payload 0
    · obtain ⟨e, he, heb, het⟩ := hheld
      rw [removeReleased_held (s := u) (e := e) (hclaims ▸ he) heb het] at hin ⊢
      rw [changeList_entries, standingIn_regraded] at hin
      exact (changeList_starts (s := u) (hscreen ▸ hwash) (hclaims ▸ hbeyond) hin).before hclock.symm hscreen.symm hsurge.symm hmute
    · rw [removeReleased_of_not_holds (s := u) fun e he heb het => hheld ⟨e, hclaims ▸ he, heb, het⟩, hclaims, hbeyond] at hin
      cases hin
  · apply State.eq_of_parts <;> simp [u]

/-! ### A claim listed -/

section
variable {x : Ctx} {s : State} {b : Bay} {p : List Byte}

theorem decodeClaim_none (h : 15 < byteAt p 0 ∨ 1 < byteAt p 1 ∨ wordAt p 2 = 0 ∨ 9000 < wordAt p 2) : decodeClaim p = none := by
  unfold decodeClaim ClaimClass.ofCode
  split
  next k hk =>
    rw [if_neg]
    simp only [Bool.and_eq_true, decide_eq_true_eq]
    have h1 : byteAt p 1 ≤ 1 := by
      by_contra hlt
      obtain ⟨n, hn⟩ : ∃ n, byteAt p 1 = n + 2 := ⟨byteAt p 1 - 2, by omega⟩
      simp [hn] at hk
    omega
  next => rfl

theorem decodeClaim_some (k : ClaimClass) (h0 : byteAt p 0 ≤ 15) (h1 : 1 ≤ wordAt p 2) (h2 : wordAt p 2 ≤ 9000)
    (hk : byteAt p 1 = k.code) : decodeClaim p = some (byteAt p 0, k, wordAt p 2) := by
  cases k <;> simp [decodeClaim, ClaimClass.ofCode, ClaimClass.code, hk, h0, h1, h2]

theorem refreshEntry_presence : (refreshEntry b s).peers[b].presence = s.peers[b].presence := by
  unfold refreshEntry
  split <;> simp

/-- A CLAIM of a bay not PRESENT, or one that fails the check, lists nothing (R74). -/
theorem takeClaim_refused (h : s.peers[b].presence ≠ .present ∨ decodeClaim p = none) : takeClaim x b p s = refreshEntry b s := by
  unfold takeClaim
  dsimp only
  split
  next hd =>
    rw [if_neg]
    rw [refreshEntry_presence]
    exact h.resolve_right (by simp [hd])
  next => rfl

theorem takeClaim_lists {tag : Nat} {k : ClaimClass} {d : Nat} (hp : s.peers[b].presence = .present)
    (hd : decodeClaim p = some (tag, k, d)) : takeClaim x b p s = insertClaim x b tag k d (refreshEntry b s) := by
  simp only [takeClaim, hd]
  rw [if_pos]
  rwa [refreshEntry_presence]

/-- A CLAIM leaves the refreshed state, or a change of its list. -/
theorem takeClaim_cases : takeClaim x b p s = refreshEntry b s ∨ ∃ l, takeClaim x b p s = changeList x l (refreshEntry b s) := by
  by_cases hp : s.peers[b].presence = .present
  · cases hd : decodeClaim p with
    | none => exact .inl (takeClaim_refused (.inr hd))
    | some q => exact .inr ⟨_, takeClaim_lists hp hd⟩
  · exact .inl (takeClaim_refused (.inl hp))

end

/-- Settles O21. -/
theorem claimFrameIsListed : Obligations.ClaimFrameIsListed := by
  intro s x f b h hx hw htx hf hk hb
  have hstep : exec (.claimFrame f) s = .next (fromBay x f id (fun b s => takeClaim x b f.payload s)
      { s with link := { s.link with receiver := .waitIdle } }) := congrArg Host.Outcome.next (hearFrame_takes hx hw htx hf hk _)
  by_cases hown : b = x.bay
  · rw [fromBay_own hb hown] at hstep
    exact ⟨_, hstep, rfl, fun _ => rfl, fun h => absurd hown h⟩
  rw [fromBay_foreign hb hown] at hstep
  change _ = Host.Outcome.next (takeClaim x b f.payload (heard x s)) at hstep
  obtain ⟨hscreen, hclaims, hpeers, hclock, hsurge, hladder, hrec, hmute⟩ := refreshed_frame (x := x) (s := s) (b := b)
  have hcases := takeClaim_cases (x := x) (b := b) (p := f.payload) (s := heard x s)
  have hpres : (heard x s).peers[b].presence = s.peers[b].presence := by simp
  have hrefused (hr : s.peers[b].presence ≠ .present ∨ decodeClaim f.payload = none) :
      (takeClaim x b f.payload (heard x s)).claims = s.claims := by
    rw [takeClaim_refused (by rwa [hpres]), hclaims]
  have hlists (k : ClaimClass) (hp : s.peers[b].presence = .present) (hd : decodeClaim f.payload = some (byteAt f.payload 0, k, wordAt f.payload 2)) :
      (takeClaim x b f.payload (heard x s)).claims.entries =
        regraded x (placed ⟨b, byteAt f.payload 0, k, wordAt f.payload 2, 0⟩ (withoutBay b s.claims.entries)) := by
    rw [takeClaim_lists (by rwa [hpres]) hd, insertClaim, changeList_entries, hclaims]
  have hord : urgentFirst (withoutBay b s.claims.entries) := urgentFirst_filter h.ordered
  have htake : (takeClaim x b f.payload (heard x s)).peers = (refreshEntry b (heard x s)).peers ∧
      (takeClaim x b f.payload (heard x s)).link.receiver = (refreshEntry b (heard x s)).link.receiver := by
    rcases hcases with hc | ⟨l, hc⟩ <;> simp [hc]
  refine ⟨_, hstep, htake.2.trans hrec, fun h => absurd h hown, fun _ => ⟨by simp, ?_, ?_, ?_, ⟨?_, ?_⟩, ?_, ?_, ?_⟩⟩
  · simp
  · exact fun hp => (htake.1.trans hpeers).trans (if_pos hp)
  · exact fun hp => ⟨(htake.1.trans hpeers).trans (if_neg hp), hrefused (.inl hp)⟩
  · exact fun hbad => hrefused (.inr (decodeClaim_none hbad))
  · intro hp h0 h1 h2
    refine ⟨fun hk => ?_, fun hk => ?_⟩
    · rw [hlists .routine hp (decodeClaim_some .routine h0 h1 h2 hk), placed_eq hord]
      rfl
    · rw [hlists .urgent hp (decodeClaim_some .urgent h0 h1 h2 hk), placed_eq hord]
      rfl
  · intro hs
    rcases hcases with hc | ⟨l, hc⟩
    · rw [hc, hscreen]
    · rw [hc, changeList_entries, standingIn_regraded] at hs
      rw [hc, changeList_same (by rw [hs, hclaims])]
      exact hscreen
  · intro hwash hin hbeyond
    rcases hcases with hc | ⟨l, hc⟩
    · rw [hc, hclaims, hin] at hbeyond
      cases hbeyond
    · rw [hc, changeList_entries, standingIn_regraded] at hbeyond
      obtain ⟨h1, h2, h3, h4⟩ := changeList_yields (s := refreshEntry b (heard x s)) (hscreen ▸ hwash) (hclaims ▸ hin) hbeyond
      rw [hc]
      exact ⟨h1, h2, h3, h4.trans (congrArg Screen.completed hscreen)⟩
  · apply State.eq_of_parts <;> simp

end Sys2Proof.Machine
end

section
/-! PROOF. The frames of the peers and the plant station: the statements O40 and O41. -/

namespace Sys2Proof.Machine

set_option Elab.async false

/-! ### The repair of the list -/

section
variable {x : Ctx} {s t : State} {b : Bay} {r : Report}

/-- In a list in order a removal leaves the other entries as they stand (R79, R83). -/
theorem removeClaim_entries (h : s.claims.entries = regraded x s.claims.entries) :
    (removeClaim x b s).claims.entries = withoutBay b s.claims.entries := by
  unfold removeClaim
  split
  next => rw [changeList_entries]; exact regraded_filter h
  next hno =>
    refine (List.filter_eq_self.2 fun e he => ?_).symm
    simpa using fun hb => hno (List.any_eq_true.2 ⟨e, he, by simp [hb]⟩)

/-- The wash states whose claim stands in the list (R80). -/
theorem repairFromStatus_stands (h : r.wash = .waiting ∨ r.wash = .washing ∨ r.wash = .yielded) : repairFromStatus x b r s =
    if holdsClaim b r.tag s then s else insertClaim x b r.tag r.cls (repairDuration x) s := by
  rcases h with h | h | h <;> simp [repairFromStatus, h]

theorem repairFromStatus_passes (h : r.wash = .claiming ∨ r.wash = .releasing) : repairFromStatus x b r s = s := by
  rcases h with h | h <;> simp [repairFromStatus, h]

theorem repairFromStatus_cases : repairFromStatus x b r s = s ∨ ∃ l, repairFromStatus x b r s = changeList x l s := by
  have hstands (h : r.wash = .waiting ∨ r.wash = .washing ∨ r.wash = .yielded) :
      repairFromStatus x b r s = s ∨ ∃ l, repairFromStatus x b r s = changeList x l s := by
    rw [repairFromStatus_stands h]
    split
    · exact .inl rfl
    · exact .inr ⟨_, rfl⟩
  cases h : r.wash with
  | idle =>
    simp only [repairFromStatus, h, removeClaim]
    split
    · exact .inr ⟨_, rfl⟩
    · exact .inl rfl
  | claiming => exact .inl (repairFromStatus_passes (.inl h))
  | releasing => exact .inl (repairFromStatus_passes (.inr h))
  | waiting => exact hstands (.inl h)
  | washing => exact hstands (.inr (.inl h))
  | yielded => exact hstands (.inr (.inr h))

theorem repairFromStatus_inserts (h : r.wash = .waiting ∨ r.wash = .washing ∨ r.wash = .yielded)
    (hn : ¬∃ e ∈ s.claims.entries, e.bay = b ∧ e.tag = r.tag) : (repairFromStatus x b r s).claims.entries =
      regraded x (placed ⟨b, r.tag, r.cls, repairDuration x, 0⟩ (withoutBay b s.claims.entries)) := by
  rw [repairFromStatus_stands h, if_neg, insertClaim, changeList_entries]
  simpa [holdsClaim] using hn

theorem repairFromStatus_holds (h : r.wash = .waiting ∨ r.wash = .washing ∨ r.wash = .yielded)
    (hn : ∃ e ∈ s.claims.entries, e.bay = b ∧ e.tag = r.tag) : repairFromStatus x b r s = s := by
  rw [repairFromStatus_stands h, if_pos]
  simpa [holdsClaim] using hn

/-! ### The pending start -/

/-- What a withdrawn start leaves of its pump (R129 to R131). -/
theorem withdrawStart_pump {c : Cause} (hp : s.pump.state = .startPending) :
    (withdrawStart x c s).pump = { s.pump with state := .stopped, guardTimer := none, cause := c } ∧
    (withdrawStart x c s).fouling = s.fouling ∧ (withdrawStart x c s).loader = s.loader := by
  have hc : countsRunning .stopped s.lines.run = countedRunning s := by simp [countedRunning, countsRunning, hp]
  exact setPump_counted_same (x := x) (s := { s with pump := { s.pump with guardTimer := none, cause := c } }) hc

/-- The peer ranks better than the own bay. -/
def outranks (x : Ctx) (s : State) (b : Bay) (r : Report) : Prop := r.score < s.duty.score ∨
  (r.score = s.duty.score ∧ tieOrder (rotationInForce s) b < tieOrder (rotationInForce s) x.bay)

theorem ranksBetter_iff : ranksBetter x s b r = true ↔ outranks x s b r := by
  simp [ranksBetter, outranks]

theorem comparePeer_idle (h : s.pump.state ≠ .startPending ∨ r.pumpState ≠ .starting ∧ ¬(r.pumpState = .startPending ∧ outranks x s b r)) :
    comparePeer x b r s = s := by
  unfold comparePeer
  split
  next hp =>
    obtain ⟨h1, h2⟩ := h.resolve_left (not_not.2 hp)
    split
    next hr => exact absurd hr h1
    next hr => rw [if_neg fun hb => h2 ⟨hr, ranksBetter_iff.1 hb⟩]
    next => rfl
  next => rfl

theorem comparePeer_stagger (hp : s.pump.state = .startPending) (h : r.pumpState = .starting) :
    comparePeer x b r s = withdrawStart x .stagger s := by
  simp [comparePeer, hp, h]

theorem comparePeer_better (hp : s.pump.state = .startPending) (h : r.pumpState = .startPending) (hb : outranks x s b r) :
    comparePeer x b r s = withdrawStart x .betterStarter s := by
  simp [comparePeer, hp, h, ranksBetter_iff.2 hb]

theorem comparePeer_cases : comparePeer x b r s = s ∨ s.pump.state = .startPending ∧ ∃ c, comparePeer x b r s = withdrawStart x c s := by
  by_cases hp : s.pump.state = .startPending
  · by_cases h1 : r.pumpState = .starting
    · exact .inr ⟨hp, _, comparePeer_stagger hp h1⟩
    by_cases h2 : r.pumpState = .startPending ∧ outranks x s b r
    · exact .inr ⟨hp, _, comparePeer_better hp h2.1 h2.2⟩
    · exact .inl (comparePeer_idle (.inr ⟨h1, h2⟩))
  · exact .inl (comparePeer_idle (.inl hp))

theorem comparePeer_fouling : (comparePeer x b r s).fouling = s.fouling := by
  rcases comparePeer_cases (x := x) (s := s) (b := b) (r := r) with h | ⟨hp, c, h⟩
  · rw [h]
  · rw [h, (withdrawStart_pump hp).2.1]

@[simp] theorem comparePeer_receiver : (comparePeer x b r s).link.receiver = s.link.receiver := by
  rcases comparePeer_cases (x := x) (s := s) (b := b) (r := r) with h | ⟨-, c, h⟩ <;> simp [h, withdrawStart]

/-- A withdrawal leaves the pump the same whatever else has moved. -/
theorem comparePeer_pump_congr (h : t.pump = s.pump) (hd : t.duty = s.duty) (ho : t.order = s.order) :
    (comparePeer x b r t).pump = (comparePeer x b r s).pump := by
  have hr : outranks x t b r ↔ outranks x s b r := by simp [outranks, rotationInForce, hd, ho]
  by_cases hp : s.pump.state = .startPending
  · have hpt : t.pump.state = .startPending := h ▸ hp
    by_cases h1 : r.pumpState = .starting
    · rw [comparePeer_stagger hp h1, comparePeer_stagger hpt h1, (withdrawStart_pump hp).1, (withdrawStart_pump hpt).1, h]
    by_cases h2 : r.pumpState = .startPending ∧ outranks x s b r
    · rw [comparePeer_better hp h2.1 h2.2, comparePeer_better hpt h2.1 (hr.2 h2.2), (withdrawStart_pump hp).1, (withdrawStart_pump hpt).1, h]
    · rw [comparePeer_idle (.inr ⟨h1, h2⟩), comparePeer_idle (.inr ⟨h1, by rwa [hr]⟩), h]
  · rw [comparePeer_idle (.inl hp), comparePeer_idle (.inl (h ▸ hp)), h]

/-! ### A report stored -/

/-- The hand-overs of a stored report: to the claim list and, in START_PENDING, to the pump controller (R21). -/
def reportMet (x : Ctx) (b : Bay) (r : Report) (s : State) : State :=
  if s.pump.state = .startPending then eitherOrder (repairFromStatus x b r) (comparePeer x b r) s else repairFromStatus x b r s

theorem takeStatus_some {p : List Byte} (h : decodeReport p = some r) :
    takeStatus x b p s = reportMet x b r (storeReport b r (restartRemovals x b r s)) := by
  simp [takeStatus, h, reportMet]

/-- The two hand-overs meet different blocks: the claim list and the controller stand as the repair alone leaves them, and the pump as
the comparison alone. -/
theorem reportMet_parts : (∃ u, u.claims = s.claims ∧ u.screen = s.screen ∧ (reportMet x b r s).claims = (repairFromStatus x b r u).claims ∧
      (reportMet x b r s).screen = (repairFromStatus x b r u).screen) ∧
    (reportMet x b r s).pump = (comparePeer x b r s).pump ∧ (reportMet x b r s).fouling = s.fouling ∧
    (reportMet x b r s).peers = s.peers ∧ (reportMet x b r s).link.receiver = s.link.receiver ∧
    (reportMet x b r s).ladder = s.ladder := by
  unfold reportMet
  split
  next hp =>
    let c : State := { s with choices := s.choices + 1 }
    rcases eitherOrder_cases (repairFromStatus x b r) (comparePeer x b r) s with h | h <;> rw [h]
    · refine ⟨⟨c, rfl, rfl, by simp [c], by simp [c]⟩, ?_, ?_, by simp, by simp, by simp⟩
      · exact comparePeer_pump_congr (by simp) (by simp) (by simp)
      · simp [comparePeer_fouling]
    · refine ⟨⟨comparePeer x b r c, by simp [c], by simp [c], rfl, rfl⟩, ?_, ?_, by simp, by simp, by simp⟩
      · simpa using comparePeer_pump_congr (x := x) (b := b) (r := r) (s := s) (t := c) rfl rfl rfl
      · simp [comparePeer_fouling]
  next hp => exact ⟨⟨s, rfl, rfl, rfl, rfl⟩, by simp [comparePeer_idle (.inl hp)], by simp, by simp, by simp, by simp⟩

/-- The removals of RESTART, in a list in order (R23). -/
theorem restartRemovals_parts (h : s.claims.entries = regraded x s.claims.entries) :
    (restartRemovals x b r s).claims.entries = (if r.restart then withoutBay b s.claims.entries else s.claims.entries) ∧
    (restartRemovals x b r s).fouling = { s.fouling with
      lanes := if r.restart then s.fouling.lanes.set b { s.fouling.lanes[b] with invalidated := true } else s.fouling.lanes } ∧
    (restartRemovals x b r s).peers = s.peers ∧ (restartRemovals x b r s).pump = s.pump ∧
    (restartRemovals x b r s).link.receiver = s.link.receiver := by
  unfold restartRemovals
  split
  next => simp [invalidateLane, removeClaim_entries h]
  next => simp

end

/-- Settles O40. -/
theorem statusFrameIsStored : Obligations.StatusFrameIsStored := by
  intro s x f b h hx hw htx hf hk hb hown
  have hstep : exec (.statusFrame f) s = .next (fromBay x f (bayConflictFound x) (fun b s => takeStatus x b f.payload s)
      { s with link := { s.link with receiver := .waitIdle } }) := congrArg Host.Outcome.next (hearFrame_takes hx hw htx hf hk _)
  rw [fromBay_foreign hb hown] at hstep
  change _ = Host.Outcome.next (takeStatus x b f.payload (heard x s)) at hstep
  cases hd : decodeReport f.payload with
  | none =>
    have ht : takeStatus x b f.payload (heard x s) = heard x s := by simp [takeStatus, hd]
    rw [ht] at hstep
    refine ⟨_, hstep, by simp, by simp, fun _ => by simp, ?_, ?_, ?_⟩
    · rintro r ⟨⟩
    · rintro - r ⟨⟩
    · apply State.eq_of_parts <;> simp
  | some r =>
    rw [takeStatus_some hd] at hstep
    let u := storeReport b r (restartRemovals x b r (heard x s))
    change _ = Host.Outcome.next (reportMet x b r u) at hstep
    have hlist : s.claims.entries = regraded x s.claims.entries := h.timed x hx
    obtain ⟨rclaims, rfoul, rpeers, rpump, rrec⟩ := restartRemovals_parts (x := x) (b := b) (r := r) (s := heard x s) (by simpa using hlist)
    obtain ⟨⟨v, vclaims, vscreen, tclaims, tscreen⟩, tpump, tfoul, tpeers, trec, tladder⟩ := reportMet_parts (x := x) (b := b) (r := r) (s := u)
    have hv : v.claims.entries = if r.restart then withoutBay b s.claims.entries else s.claims.entries := by
      simpa [vclaims, u, storeReport] using rclaims
    have hothers : withoutBay b v.claims.entries = withoutBay b s.claims.entries := by
      rw [hv]
      split <;> simp [withoutBay]
    have hreg : v.claims.entries = regraded x v.claims.entries := by
      rw [hv]
      split
      · exact (regraded_filter hlist).symm
      · exact hlist
    have hupump : u.pump = s.pump := by simp [u, storeReport]
    have hrank : outranks x u b r ↔ outranks x s b r := by simp [outranks, rotationInForce, u, storeReport]
    refine ⟨_, hstep, ?_, ?_, by rintro ⟨⟩, ?_, ?_, ?_⟩
    · simpa [u, storeReport, rrec] using trec
    · exact tladder.trans (by simp [u, storeReport])
    · rintro _ ⟨⟩
      refine ⟨?_, ?_, ⟨fun hi => ?_, fun hp => ?_, fun hs hr hh => ?_, fun hs hn => ?_⟩, fun hp => ?_, fun hp => ⟨fun hr => ?_, fun hr hb => ?_, fun hr hb => ?_⟩⟩
      · simpa [u, storeReport, rpeers] using tpeers
      · simpa [u, storeReport, rfoul] using tfoul
      · rw [tclaims, repairFromStatus, hi]
        exact (removeClaim_entries hreg).trans (hothers.trans (regraded_filter hlist).symm)
      · rw [tclaims, repairFromStatus_passes hp, hv]
        exact if_congr Iff.rfl (regraded_filter hlist).symm rfl
      · obtain ⟨e, he, heb, het⟩ := hh
        rw [tclaims, repairFromStatus_holds hs ⟨e, by rwa [hv, hr], heb, het⟩, vclaims]
        simp [u, storeReport, restartRemovals, hr]
      · have hno : ¬∃ e ∈ v.claims.entries, e.bay = b ∧ e.tag = r.tag := by
          rw [hv]
          rintro ⟨e, he, heb, het⟩
          split at he
          next => simp [withoutBay, heb] at he
          next hr => exact (hn.resolve_left hr) ⟨e, he, heb, het⟩
        rw [tclaims, repairFromStatus_inserts hs hno, hothers, placed_eq (l := withoutBay b s.claims.entries) (urgentFirst_filter h.ordered)]
        cases r.cls <;> rfl
      · rw [tpump, comparePeer_idle (.inl (by rwa [hupump])), hupump]
      · rw [tpump, comparePeer_stagger (by rwa [hupump]) hr, (withdrawStart_pump (by rwa [hupump])).1]
        exact ⟨rfl, rfl⟩
      · rw [tpump, comparePeer_better (by rwa [hupump]) hr (hrank.2 hb), (withdrawStart_pump (by rwa [hupump])).1]
        exact ⟨rfl, rfl⟩
      · rw [tpump, comparePeer_idle (.inr ⟨hr, fun ⟨h1, h2⟩ => hb ⟨h1, hrank.1 h2⟩⟩), hupump]
    · rintro hs _ ⟨⟩ hr
      have hvs : v.screen = s.screen := by simp [vscreen, u, storeReport, restartRemovals, hr]
      rw [tclaims] at hs
      rw [tscreen]
      rcases repairFromStatus_cases (x := x) (b := b) (r := r) (s := v) with hc | ⟨l, hc⟩
      · rw [hc, hvs]
      · rw [hc, changeList_entries, standingIn_regraded] at hs
        rw [hc, changeList_same (by rw [hs, hv, hr]; rfl)]
        exact hvs
    · rw [show reportMet x b r u = takeStatus x b f.payload (heard x s) from (takeStatus_some hd).symm]
      apply State.eq_of_parts <;> simp

/-! ### An acknowledge beside a trigger check -/

section
variable {x : Ctx} {s t : State}

/-- A change of pump state moves the entries of PUMP TRIP and PUMP FAIL alone (R137, R139). -/
theorem alarmState_setPump {p : PumpState} {a : Alarm} (h1 : a ≠ .pumpTrip) (h2 : a ≠ .pumpFail) :
    alarmState (setPump x p s) a = alarmState s a := by
  by_cases hp : s.pump.state = p
  · rw [setPump_same hp]
  · rw [alarmState_congr (setPump_alarms hp), alarmState_setCond_kept (.inl h2.symm), alarmState_setCond_kept (.inl h1.symm)]

theorem alarmState_protectOnEntry {a : Alarm} (h1 : a ≠ .pumpTrip) (h2 : a ≠ .pumpFail) :
    alarmState (protectOnEntry x s) a = alarmState s a := by
  unfold protectOnEntry enterStopping
  split
  · exact alarmState_setPump h1 h2
  · rfl

theorem alarmState_ackAtPump {a : Alarm} (h1 : a ≠ .pumpTrip) (h2 : a ≠ .pumpFail) :
    alarmState (ackAtPump x s) a = alarmState s a := by
  unfold ackAtPump takeOverRunning enterStopped
  split_ifs
  · exact (alarmState_protectOnEntry h1 h2).trans (alarmState_setPump h1 h2)
  · exact alarmState_setPump h1 h2
  · rfl

theorem alarmState_ackEntries (a : Alarm) : alarmState (ackEntries x s) a =
    if alarmEnabled x.cfg a.index.val then entryAfterAck (alarmState s a) else alarmState s a := by
  rw [← alarmState_acked]
  unfold ackEntries
  dsimp only
  split
  next h => simp [alarmState, h]
  next => simp [alarmState]

/-- What an acknowledge leaves the trigger checks: the wash and its timers, the index, and blocks that did not hold. -/
theorem acknowledge_screen_kept : (acknowledge x s).screen.wash = s.screen.wash ∧ (acknowledge x s).screen.tag = s.screen.tag ∧
    (acknowledge x s).screen.cls = s.screen.cls ∧ (acknowledge x s).screen.gapTimer = s.screen.gapTimer ∧
    (acknowledge x s).screen.retryTimer = s.screen.retryTimer := by
  simp only [acknowledge, ackAtLoader, setCond_frame, ackAtScreen]
  split <;> simp

theorem acknowledge_fouling_kept :
    (acknowledge x s).fouling.index = s.fouling.index ∧ (acknowledge x s).fouling.stale = s.fouling.stale := by
  have h := (ackAtPump_pumpOnly x (ackEntries x s)).fouling
  simp only [acknowledge, ackAtLoader, setCond_frame, ackAtScreen_frame]
  rw [h]
  simp

theorem acknowledge_of_running (h : s.conds.screenStall = false) :
    acknowledge x s = setCond x .dutyRecordLost false (ackAtPump x (ackEntries x s)) := by
  have hp : (ackAtPump x (ackEntries x s)).conds.screenStall = false := by
    rw [(ackAtPump_pumpOnly x (ackEntries x s)).conds]
    simpa using h
  unfold acknowledge ackAtLoader
  rw [ackAtScreen, if_neg (by simp [hp])]

theorem acknowledge_unblocked (h : claimsBlocked s = false) : claimsBlocked (acknowledge x s) = false := by
  rw [← Bool.not_eq_true, claimsBlocked_iff] at h ⊢
  simp only [not_or, not_not, Bool.not_eq_true] at h ⊢
  obtain ⟨h1, h2, h3, h4⟩ := h
  have hstall : (ackAtPump x (ackEntries x s)).conds.screenStall = s.conds.screenStall := by
    rw [(ackAtPump_pumpOnly x (ackEntries x s)).conds]
    simp
  have hack := acknowledge_of_running (x := x) h1
  refine ⟨?_, ?_, ?_, ?_⟩
  · rw [hack, setCond_conds]
    simp only [Conds.set, hstall, h1]
  · rw [hack, alarmState_setCond_kept (.inl (by decide)), alarmState_ackAtPump (by decide) (by decide), alarmState_ackEntries, h2]
    simp [entryAfterAck]
  · rw [acknowledge_screen_kept.2.2.2.2]
    exact h3
  · exact (acknowledge_condsOnly x s .bayConflict (by decide)).trans h4

/-- A trigger check makes the claim of a manual wash (R92, R93). -/
theorem manualWash_claims (hw : s.screen.wash = .idle) (hp : s.loader.phase = .operating) (hb : claimsBlocked s = false)
    (hg : s.screen.gapTimer = none) (hl : s.ladder.stage ≠ .isolated) : triggerCheck x .manualWash s =
      makeClaim x (if x.cfg.urgentThreshold ≤ s.fouling.index ∧ s.fouling.stale = false then .urgent else .routine) s := by
  obtain ⟨-, hu, hr, -⟩ := chosenClass_cases x.cfg .manualWash s
  have hut : urgentTrigger x.cfg .manualWash s = true ↔ x.cfg.urgentThreshold ≤ s.fouling.index ∧ s.fouling.stale = false := by
    simp [urgentTrigger_iff]
  have hrt : routineTrigger x.cfg .manualWash s = true := by simp [routineTrigger_iff]
  split
  next h => exact triggerCheck_some hw hp (hu hb (hut.2 h))
  next h => exact triggerCheck_some hw hp (hr hb (Bool.eq_false_iff.2 fun ht => h (hut.1 ht)) hrt (by simp [routineBlocked, hg, hl]))

theorem triggerCheck_held {e : TriggerEvent} {f : TxFrame} (h : Held f s) : Held f (triggerCheck x e s) := by
  unfold triggerCheck makeClaim
  split
  · split
    · exact (setWash_told x _ .claiming).held (.offer (.of_link h rfl))
    · exact h
  · exact h

/-! ### The ORDER taken -/

/-- The record an ORDER leaves (R27, R28). -/
def orderRecord (p : List Byte) : OrderRecord :=
  { heard := true, lastApplied := some (p.getD 0 0#8), demand := min (byteAt p 1) 12, rotation := byteAt p 2 % 12, age := 0,
    demandHeld := false }

theorem takeOrder_eq {p : List Byte} : takeOrder x p s =
    if s.order.lastApplied = some (p.getD 0 0#8) then { s with order := orderRecord p }
    else applyMasks x (decodeOrder p) { s with order := orderRecord p } := by
  by_cases h : s.order.lastApplied = some (p.getD 0 0#8)
  · have ht : takeOrder x p s = orderTaken (decodeOrder p) s := if_pos h
    rw [if_pos h, ht, orderRecord, ← h]
    rfl
  · rw [if_neg h]
    exact if_neg h

theorem maskFlag_ofWord (p : List Byte) (n : Nat) (b : Bay) :
    maskFlag (BitVec.ofNat 16 (wordAt p n)) b = (byteAt p n * 256 + byteAt p (n + 1)).testBit b.val := by
  rw [maskFlag, BitVec.getLsbD_ofNat, wordAt, decide_eq_true (show b.val < 16 by omega), Bool.true_and]

/-- LINK ISOLATED falls at a return from another stage, and its entry with it (R32, R34). -/
theorem heard_alarms (a : Alarm) : alarmState (heard x s) a =
    if a = .linkIsolated ∧ alarmEnabled x.cfg 14 = true ∧ s.ladder.stage ≠ .linked ∧ s.conds.linkIsolated = true then
      entryAfterChange false (alarmState s a) else alarmState s a := by
  let c : State := { s with link := { s.link with receiver := .waitIdle } }
  change alarmState (returnToLinked x c) a = _
  rw [returnToLinked_eq]
  by_cases hl : s.ladder.stage = .linked
  · rw [if_pos hl, if_neg (by simp [hl])]
    rfl
  · rw [if_neg hl, alarmState_setCond]
    by_cases ha : a = .linkIsolated
    · subst ha
      have he : alarmState (offerStatus x { c with ladder := ⟨0, .linked⟩ }) .linkIsolated = alarmState s .linkIsolated := by
        simp [alarmState, c]
      rw [he]
      refine if_congr ?_ rfl rfl
      simp only [Conds.get, hl, c, true_and, not_false_eq_true, ne_eq, offerStatus_frame, Bool.not_eq_false]
      exact Iff.rfl
    · rw [if_neg fun h => ha h.1.symm, if_neg fun h => ha h.1]
      simp [alarmState, c]

/-! ### The masks of an ORDER -/

variable {o : OrderFields}

theorem applyMasks_none (ha : maskFlag o.ackMask x.bay = false) (hw : maskFlag o.washMask x.bay = false) : applyMasks x o s = s := by
  simp [applyMasks, ha, hw]

theorem applyMasks_check (ha : maskFlag o.ackMask x.bay = false) (hw : maskFlag o.washMask x.bay = true) :
    applyMasks x o s = triggerCheck x .manualWash s := by
  simp [applyMasks, ha, hw]

theorem applyMasks_ack (ha : maskFlag o.ackMask x.bay = true) (hw : maskFlag o.washMask x.bay = false) :
    applyMasks x o s = acknowledge x s := by
  simp [applyMasks, ha, hw]

/-- The two flags together are taken in either order (R28, log 6). -/
theorem applyMasks_both (ha : maskFlag o.ackMask x.bay = true) (hw : maskFlag o.washMask x.bay = true) :
    applyMasks x o s = triggerCheck x .manualWash (acknowledge x { s with choices := s.choices + 1 }) ∨
    applyMasks x o s = acknowledge x (triggerCheck x .manualWash { s with choices := s.choices + 1 }) := by
  simp only [applyMasks, ha, hw]
  exact eitherOrder_cases _ _ s

theorem applyMasks_kept : (applyMasks x o s).link.receiver = s.link.receiver ∧
    (Held .status s → Held .status (applyMasks x o s)) := by
  cases ha : maskFlag o.ackMask x.bay <;> cases hw : maskFlag o.washMask x.bay
  · rw [applyMasks_none ha hw]
    exact ⟨rfl, id⟩
  · rw [applyMasks_check ha hw]
    exact ⟨by simp, triggerCheck_held⟩
  · rw [applyMasks_ack ha hw]
    exact ⟨by simp, (acknowledge_told x s).held⟩
  · rcases applyMasks_both (s := s) ha hw with h | h <;> rw [h]
    · exact ⟨by simp, fun hs => triggerCheck_held ((acknowledge_told x _).held (.of_link hs rfl))⟩
    · exact ⟨by simp, fun hs => (acknowledge_told x _).held (triggerCheck_held (.of_link hs rfl))⟩

/-- Without the acknowledge flag the conditions, their entries and the pump stand. -/
theorem applyMasks_unacked (ha : maskFlag o.ackMask x.bay = false) : (applyMasks x o s).conds = s.conds ∧
    (applyMasks x o s).alarms = s.alarms ∧ (applyMasks x o s).pump = s.pump := by
  cases hw : maskFlag o.washMask x.bay
  · rw [applyMasks_none ha hw]
    exact ⟨rfl, rfl, rfl⟩
  · rw [applyMasks_check ha hw]
    simp

/-- With it they move as an acknowledge moves them, a trigger check beside it or not. -/
theorem applyMasks_acked (ha : maskFlag o.ackMask x.bay = true) : ∃ w : State, w.conds = s.conds ∧ w.alarms = s.alarms ∧
    w.pump = s.pump ∧ (applyMasks x o s).conds = (acknowledge x w).conds ∧ (applyMasks x o s).alarms = (acknowledge x w).alarms := by
  cases hw : maskFlag o.washMask x.bay
  · exact ⟨s, rfl, rfl, rfl, by rw [applyMasks_ack ha hw], by rw [applyMasks_ack ha hw]⟩
  · rcases applyMasks_both (s := s) ha hw with h | h <;> rw [h]
    · exact ⟨{ s with choices := s.choices + 1 }, rfl, rfl, rfl, by simp, by simp⟩
    · exact ⟨triggerCheck x .manualWash { s with choices := s.choices + 1 }, by simp, by simp, by simp, rfl, rfl⟩

theorem applyMasks_unwashed (hw : maskFlag o.washMask x.bay = false) :
    (applyMasks x o s).screen.wash = s.screen.wash ∧ (applyMasks x o s).screen.tag = s.screen.tag := by
  cases ha : maskFlag o.ackMask x.bay
  · rw [applyMasks_none ha hw]
    exact ⟨rfl, rfl⟩
  · rw [applyMasks_ack ha hw]
    exact ⟨acknowledge_screen_kept.1, acknowledge_screen_kept.2.1⟩

/-- The wash flag makes a claim, an acknowledge beside it or not. -/
theorem applyMasks_washed (h : maskFlag o.washMask x.bay = true) (hw : s.screen.wash = .idle) (hp : s.loader.phase = .operating)
    (hb : claimsBlocked s = false) (hg : s.screen.gapTimer = none) (hl : s.ladder.stage ≠ .isolated) :
    (applyMasks x o s).screen.wash = .claiming ∧ (applyMasks x o s).screen.tag = (s.screen.tag + 1) % 16 ∧
    (applyMasks x o s).screen.cls = (if x.cfg.urgentThreshold ≤ s.fouling.index ∧ s.fouling.stale = false then .urgent else .routine) := by
  have made (w : State) (h1 : w.screen.wash = .idle) (h2 : w.loader.phase = .operating) (h3 : claimsBlocked w = false)
      (h4 : w.screen.gapTimer = none) (h5 : w.ladder.stage ≠ .isolated) (h6 : w.screen.tag = s.screen.tag)
      (h7 : w.fouling.index = s.fouling.index) (h8 : w.fouling.stale = s.fouling.stale) :
      (triggerCheck x .manualWash w).screen.wash = .claiming ∧ (triggerCheck x .manualWash w).screen.tag = (s.screen.tag + 1) % 16 ∧
      (triggerCheck x .manualWash w).screen.cls =
        (if x.cfg.urgentThreshold ≤ s.fouling.index ∧ s.fouling.stale = false then .urgent else .routine) := by
    obtain ⟨m1, m2, m3, -⟩ := makeClaim_made (x := x)
      (k := if x.cfg.urgentThreshold ≤ w.fouling.index ∧ w.fouling.stale = false then .urgent else .routine) h1
    rw [manualWash_claims h1 h2 h3 h4 h5]
    exact ⟨m1, by rw [m2, h6], by rw [m3, h7, h8]⟩
  cases ha : maskFlag o.ackMask x.bay
  · rw [applyMasks_check ha h]
    exact made s hw hp hb hg hl rfl rfl rfl
  · obtain ⟨c, hc, hscreen, hloader, hladder, hfouling, hblocked⟩ : ∃ c : State, c = { s with choices := s.choices + 1 } ∧
        c.screen = s.screen ∧ c.loader = s.loader ∧ c.ladder = s.ladder ∧ c.fouling = s.fouling ∧ claimsBlocked c = claimsBlocked s :=
      ⟨_, rfl, rfl, rfl, rfl, rfl, rfl⟩
    rcases applyMasks_both (s := s) ha h with he | he <;> rw [he, ← hc]
    · obtain ⟨a1, a2, a3, a4, a5⟩ := acknowledge_screen_kept (x := x) (s := c)
      obtain ⟨f1, f2⟩ := acknowledge_fouling_kept (x := x) (s := c)
      refine made (acknowledge x c) ?_ ?_ (acknowledge_unblocked (hblocked.trans hb)) ?_ ?_ ?_ ?_ ?_
      · rw [a1, hscreen, hw]
      · simpa [hloader] using hp
      · rw [a4, hscreen, hg]
      · simpa [hladder] using hl
      · rw [a2, hscreen]
      · rw [f1, hfouling]
      · rw [f2, hfouling]
    · obtain ⟨m1, m2, m3⟩ := made c (by rw [hscreen, hw]) (by rw [hloader, hp]) (hblocked.trans hb) (by rw [hscreen, hg])
        (by rwa [hladder]) (by rw [hscreen]) (by rw [hfouling]) (by rw [hfouling])
      obtain ⟨a1, a2, a3, -⟩ := acknowledge_screen_kept (x := x) (s := triggerCheck x .manualWash c)
      exact ⟨a1.trans m1, a2.trans m2, a3.trans m3⟩

end

/-- Settles O41. -/
theorem orderFrameIsTaken : Obligations.OrderFrameIsTaken := by
  intro s x f hx hw htx hf hk sequence ackFlag washFlag isolation ladderAlone ended
  have hstep : exec (.orderFrame f) s = .next (takeOrder x f.payload (heard x s)) :=
    congrArg Host.Outcome.next (hearFrame_takes hx hw htx hf hk _)
  obtain ⟨v, hv⟩ : ∃ v : State, v = { heard x s with order := orderRecord f.payload } := ⟨_, rfl⟩
  let o := decodeOrder f.payload
  have htake : takeOrder x f.payload (heard x s) = if s.order.lastApplied = some sequence then v else applyMasks x o v := by
    rw [takeOrder_eq, hv]
    simp [sequence, o]
  have hack : maskFlag o.ackMask x.bay = ackFlag := maskFlag_ofWord f.payload 3 x.bay
  have hwash : maskFlag o.washMask x.bay = washFlag := maskFlag_ofWord f.payload 5 x.bay
  have hconds : v.conds = { s.conds with linkIsolated := isolation } := by simp [hv, isolation]
  have hpump : v.pump = s.pump := by simp [hv]
  have hentry (a : Alarm) : alarmState v a = if a = .linkIsolated ∧ alarmEnabled x.cfg 14 = true ∧ s.ladder.stage ≠ .linked ∧
      s.conds.linkIsolated = true then entryAfterChange false (alarmState s a) else alarmState s a := by
    rw [← heard_alarms, hv]
    rfl
  have halone (t : State) (hc : t.conds = v.conds) (ha : t.alarms = v.alarms) : ladderAlone t := by
    refine ⟨hc.trans hconds, fun a h => ?_, fun hi he => ?_⟩
    · rw [alarmState_congr ha, hentry, if_neg]
      rintro ⟨h1, -, h3, h4⟩
      exact h.elim (fun h => h h1) fun h => by simp [isolation, h3, h4] at h
    · have hmoved : s.ladder.stage ≠ .linked ∧ s.conds.linkIsolated = true := by
        by_contra hn
        refine hi ?_
        by_cases hl : s.ladder.stage = .linked <;> simp_all [isolation]
      rw [alarmState_congr ha, hentry, if_pos ⟨rfl, he, hmoved⟩]
      cases alarmState s .linkIsolated <;> rfl
  have hheld (hl : s.ladder.stage ≠ .linked) (hm : s.link.tx ≠ .mute) : Held .status v := by
    rw [hv]
    exact returnToLinked_held (s := { s with link := { s.link with receiver := .waitIdle } }) hl hm
  have hfoul : v.fouling = s.fouling := by simp [hv]
  have hscreen : v.screen = s.screen := by simp [hv]
  have hget (a : Alarm) (ha : a ≠ .linkIsolated) : v.conds.get a = s.conds.get a := by
    rw [hconds]
    exact Conds.get_set_of_ne s.conds isolation ha.symm
  have hladder : v.ladder = ⟨0, .linked⟩ := by simp [hv]
  have hreceiver : v.link.receiver = .waitIdle := by simp [hv]
  have hphase : v.loader.phase = s.loader.phase := by simp [hv]
  have horder : v.order = orderRecord f.payload := by simp [hv]
  have hvframe : v = { s with order := v.order, ladder := v.ladder, conds := v.conds, alarms := v.alarms, link := v.link } := by
    rw [hv]
    apply State.eq_of_parts <;> simp
  rw [htake] at hstep
  by_cases hlast : s.order.lastApplied = some sequence ∨ (ackFlag = false ∧ washFlag = false)
  · have ht : (if s.order.lastApplied = some sequence then v else applyMasks x o v) = v := by
      split
      next => rfl
      next hn =>
        obtain ⟨h1, h2⟩ := hlast.resolve_left hn
        exact applyMasks_none (hack.trans h1) (hwash.trans h2)
    rw [ht] at hstep
    refine ⟨v, hstep, hreceiver, hladder, horder, fun hl hm => (hheld hl hm).handedOver,
      fun _ => ⟨halone v rfl rfl, fun hl => ?_, hvframe⟩, fun h1 h2 => ?_⟩
    · rw [hv]
      show (returnToLinked x _).link = _
      rw [returnToLinked_eq, if_pos hl]
    · obtain ⟨h3, h4⟩ := hlast.resolve_left h1
      exact h2.elim (fun h => absurd (h3.symm.trans h) (by decide)) fun h => absurd (h4.symm.trans h) (by decide)
  · have hnew : s.order.lastApplied ≠ some sequence := fun h => hlast (.inl h)
    rw [if_neg hnew] at hstep
    obtain ⟨krec, kheld⟩ := applyMasks_kept (x := x) (o := o) (s := v)
    refine ⟨_, hstep, krec.trans hreceiver, by simp [hladder], Eq.trans (by simp) horder, fun hl hm => (kheld (hheld hl hm)).handedOver,
      fun h => absurd h hlast, fun _ _ => ⟨fun ha => ?_, fun ha hlaw => ?_, fun hw => ?_, fun hw hi hp hb hg => ?_, ?_⟩⟩
    · obtain ⟨h1, h2, h3⟩ := applyMasks_unacked (s := v) (hack.trans ha)
      exact ⟨halone _ h1 h2, h3.trans hpump⟩
    · obtain ⟨w, wconds, walarms, wpump, tconds, talarms⟩ := applyMasks_acked (s := v) (hack.trans ha)
      have htells : PumpTells w := by
        constructor
        · rw [wconds, wpump, hconds, hpump]; exact hlaw.trip
        · rw [wconds, wpump, hconds, hpump]; exact hlaw.fail
      have hmoved (a : Alarm) := acknowledge_entries (x := x) htells a
      refine ⟨?_, fun a he => ⟨fun h => ?_, fun h hc hst => ?_⟩⟩
      · rw [tconds, (acknowledge_alarms (x := x) htells).1, wconds, hconds]
        rfl
      · rw [alarmState_congr talarms, hmoved, if_neg, if_pos he, alarmState_congr walarms, hentry, if_neg]
        · cases alarmState s a <;> rfl
        · rintro ⟨rfl, -, h3, h4⟩
          exact h.elim (fun h => h (.inr (.inr (.inr ⟨rfl, h3⟩)))) fun h => absurd (h4.symm.trans h) (by decide)
        · rintro ⟨h1, -, h3⟩
          rw [wconds, hget a (by rintro rfl; simp at h1)] at h3
          refine h.elim (fun h => h ?_) fun h => absurd (h3.symm.trans h) (by decide)
          exact h1.elim .inl fun h1 => .inr (h1.elim .inl fun h1 => .inr (.inl h1))
      · by_cases hl : a = .linkIsolated
        · subst hl
          obtain ⟨-, hst'⟩ : Alarm.linkIsolated = .linkIsolated ∧ s.ladder.stage ≠ .linked := by simpa [ended] using h
          rw [alarmState_congr talarms, hmoved, if_neg (by simp), if_pos he, alarmState_congr walarms, hentry, if_pos ⟨rfl, he, hst', hc⟩]
          rcases hst with hst | hst <;> rw [hst] <;> rfl
        · have ha3 : a = .pumpFail ∨ a = .screenStall ∨ a = .dutyRecordLost :=
            h.imp id fun h => h.imp id fun h => h.resolve_right fun h => hl h.1
          rw [alarmState_congr talarms, hmoved, if_pos ⟨ha3, he, by rw [wconds, hget a hl, hc]⟩, alarmState_congr walarms, hentry,
            if_neg fun h => hl h.1]
          rcases hst with hst | hst <;> rw [hst] <;> rfl
    · rw [← hscreen]
      exact applyMasks_unwashed (hwash.trans hw)
    · have hb' : claimsBlocked v = false := by
        rw [← Bool.not_eq_true, claimsBlocked_iff] at hb ⊢
        rwa [hconds, hentry, if_neg (by simp), hscreen]
      have hmade := applyMasks_washed (s := v) (hwash.trans hw) (by rw [hscreen, hi]) (by rw [hphase, hp]) hb' (by rw [hscreen, hg]) (by simp [hladder])
      rwa [hscreen, hfoul] at hmade
    · apply State.eq_of_parts <;> simp only [applyMasks_frame] <;> rw [hvframe]

end Sys2Proof.Machine
end

section
/-! PROOF. The ageing timer: the statements O38 and O39. -/

namespace Sys2Proof.Machine

set_option Elab.async false

/-! ### A stage formed -/

section
variable {x : Ctx} {s t : State} {st : Stage}

/-- The stage met by the blocks that isolation concerns (R31). -/
def stageMet (x : Ctx) (st : Stage) (s : State) : State :=
  let t := offerStatus x { s with ladder := { s.ladder with stage := st } }
  if st = .isolated then isolatedAtPump x (isolateWash x t) else t

theorem setStage_same (h : s.ladder.stage = st) : setStage x st s = s := if_pos h

theorem setStage_moved (h : s.ladder.stage ≠ st) : setStage x st s = setCond x .linkIsolated (st = .isolated) (stageMet x st s) :=
  if_neg h

theorem isolatedAtPump_parts : (isolatedAtPump x s).pump =
      (if s.pump.state = .startPending then { s.pump with state := .stopped, guardTimer := none, cause := .link } else s.pump) ∧
    (isolatedAtPump x s).fouling = s.fouling ∧ (isolatedAtPump x s).loader = s.loader := by
  unfold isolatedAtPump
  split
  next h => exact withdrawStart_pump h
  next => exact ⟨rfl, rfl, rfl⟩

/-- What a change of stage does to the pump controller, and to no block beside (R31, R131). -/
theorem setStage_parts : (setStage x st s).pump =
      (if st = .isolated ∧ s.ladder.stage ≠ .isolated ∧ s.pump.state = .startPending then
        { s.pump with state := .stopped, guardTimer := none, cause := .link } else s.pump) ∧
    (setStage x st s).fouling = s.fouling ∧ (setStage x st s).loader = s.loader := by
  by_cases h : s.ladder.stage = st
  · rw [setStage_same h, if_neg]
    · exact ⟨rfl, rfl, rfl⟩
    · rintro ⟨h1, h2, -⟩
      exact h2 (h.trans h1)
  · rw [setStage_moved h]
    simp only [setCond_frame, stageMet]
    by_cases hi : st = .isolated
    · obtain ⟨h1, h2, h3⟩ := isolatedAtPump_parts (x := x)
        (s := isolateWash x (offerStatus x { s with ladder := { s.ladder with stage := st } }))
      subst hi
      rw [if_pos rfl, h1, h2, h3]
      simp [h]
    · rw [if_neg hi, if_neg fun h => hi h.1]
      simp

/-- The entries, the order record and the isolation count aged (R19, R29, R31). -/
def counted (x : Ctx) (s : State) : State :=
  let u := ageOrder x (ageEntries x s)
  { u with ladder := { u.ladder with count := min (u.ladder.count + 1) 255 } }

/-- The stage of the next count (R31). -/
def nextStage (x : Ctx) (s : State) : Stage := stageOfCount x.cfg (min (s.ladder.count + 1) 255)

@[simp] theorem counted_frame : (counted x s).pending = s.pending ∧ (counted x s).choices = s.choices ∧
    (counted x s).inReset = s.inReset ∧ (counted x s).clock = s.clock ∧ (counted x s).lines = s.lines ∧
    (counted x s).front = s.front ∧ (counted x s).peers = (ageEntries x s).peers ∧
    (counted x s).ageingTimer = s.ageingTimer ∧ (counted x s).order = (ageOrder x s).order ∧
    (counted x s).ladder = { s.ladder with count := min (s.ladder.count + 1) 255 } ∧ (counted x s).tide = s.tide ∧
    (counted x s).fouling = (ageEntries x s).fouling ∧ (counted x s).claims = (ageEntries x s).claims ∧
    (counted x s).screen = (ageEntries x s).screen ∧ (counted x s).duty = s.duty ∧ (counted x s).pump = s.pump ∧
    (counted x s).conds = s.conds ∧ (counted x s).alarms = s.alarms ∧ (counted x s).link = (ageEntries x s).link ∧
    (counted x s).loader = s.loader := by
  simp [counted, ageOrder]

/-- The blocks at the end of an ageing expiry, but for the LISTENING window. -/
def aged (x : Ctx) (s : State) : State := setStage x (nextStage x s) (counted x s)

theorem ageingStep_eq : ageingStep x s = countWindow x (aged x s) := by
  have hl : (ageOrder x (ageEntries x s)).ladder = s.ladder := by simp
  rw [aged, nextStage, ← hl]
  rfl

theorem counted_told : Told x true s (counted x s) := .before (ageEntries_told x s)

theorem aged_told : Told x true s (aged x s) := .trans counted_told (setStage_told x _ _)

theorem aged_parts : (aged x s).loader = s.loader ∧ (aged x s).clock = s.clock ∧
    (aged x s).pump.runMinutes = s.pump.runMinutes ∧ (aged x s).pump.minuteAcc = s.pump.minuteAcc ∧
    (aged x s).pump.minuteTimer = s.pump.minuteTimer ∧ (aged x s).conds.dutyRecordLost = s.conds.dutyRecordLost := by
  obtain ⟨h1, -, h3⟩ := setStage_parts (x := x) (st := nextStage x s) (s := counted x s)
  unfold aged
  refine ⟨h3.trans (by simp), by simp, ?_, ?_, ?_, ?_⟩
  · rw [h1]; split <;> simp
  · rw [h1]; split <;> simp
  · rw [h1]; split <;> simp
  · exact (setStage_condsOnly x _ _ .dutyRecordLost (by decide)).trans (by simp [Conds.get])

/-! ### The end of LISTENING -/

theorem countWindow_idle (h : s.loader.phase ≠ .listening) : countWindow x s = s := if_neg h

theorem countWindow_first (h : s.loader.phase = .listening) (hw : s.loader.window = 0) :
    countWindow x s = { s with loader := { s.loader with window := 1 } } := by
  simp [countWindow, h, hw]

theorem countWindow_ends (h : s.loader.phase = .listening) (hw : 1 ≤ s.loader.window) :
    countWindow x s = endListening x { s with loader := { s.loader with window := s.loader.window + 1 } } := by
  rw [countWindow, if_pos h]
  exact if_pos (by simpa using hw)

theorem endListening_good (h : s.loader.mark ≠ .lost) : endListening x s = enterOperating x s := if_neg h

theorem endListening_lost (h : s.loader.mark = .lost) :
    endListening x s = setCond x .dutyRecordLost true (enterOperating x (adoptHours x s)) := if_pos h

theorem endListening_operates : (endListening x s).loader.phase = .operating ∧ (endListening x s).screen.intervalTimer =
      (if x.cfg.maxWashInterval = 0 then none else some (s.clock + ms (x.cfg.maxWashInterval * 60000))) ∧
    (s.link.tx ≠ .mute → Held .status (endListening x s)) ∧ (endListening x s).pump.minuteAcc = s.pump.minuteAcc ∧
    (endListening x s).pump.minuteTimer = s.pump.minuteTimer := by
  have hheld (u : State) (hm : u.link.tx ≠ .mute) : Held .status (enterOperating x u) := by
    unfold enterOperating
    exact .of_link (held_offer (s := { u with loader := { u.loader with phase := .operating } }) hm) rfl
  by_cases h : s.loader.mark = .lost
  · rw [endListening_lost h]
    refine ⟨by simp [enterOperating], by simp [enterOperating, adoptHours, ahead], fun hm => ?_, by simp [enterOperating, adoptHours],
      by simp [enterOperating, adoptHours]⟩
    exact (Told.cond (w := false) .dutyRecordLost true _ (by decide)).held (hheld _ (by simpa [adoptHours] using hm))
  · rw [endListening_good h]
    exact ⟨by simp [enterOperating], by simp [enterOperating, ahead], hheld s, by simp [enterOperating], by simp [enterOperating]⟩

/-- A lost record is made good by the peers' hours and written (R169, R170). -/
theorem endListening_adopts (h : s.loader.mark = .lost) : (endListening x s).loader.mark = .good ∧
    (endListening x s).conds.dutyRecordLost = true ∧ (peerHours x s = [] → (endListening x s).pump.runMinutes = 0) ∧
    (∀ m, median (peerHours x s) = some m → (endListening x s).pump.runMinutes = 60 * m.toNat) ∧
    (s.loader.write = .idle → (endListening x s).loader.write = .enable ∧ (endListening x s).loader.spi = some .writeEnable ∧
      (endListening x s).loader.writePending = false) := by
  rw [endListening_lost h]
  refine ⟨by simp [enterOperating, adoptHours], by simp [Conds.set], fun hn => ?_, fun m hm => ?_, fun hw => ?_⟩
  · simp [enterOperating, adoptHours, hn, median]
  · simp [enterOperating, adoptHours, hm]
  · simp [enterOperating, adoptHours, requestWrite, beginWrite, hw]

theorem endListening_keeps (h : s.loader.mark ≠ .lost) : (endListening x s).loader = { s.loader with phase := .operating } ∧
    (endListening x s).pump = s.pump ∧ (endListening x s).conds = s.conds := by
  rw [endListening_good h]
  simp [enterOperating]

theorem peerHours_nonneg {m : Int} (h : median (peerHours x s) = some m) : 0 ≤ m := by
  obtain ⟨-, -, hleast, -⟩ := medianIsTheMiddleReading (peerHours x s)
  obtain ⟨⟨a, ha, ham⟩, -⟩ := hleast m h
  obtain ⟨b, -, hb⟩ := List.mem_filterMap.1 ha
  obtain ⟨r, -, rfl⟩ := Option.map_eq_some_iff.1 hb
  exact le_trans (Int.natCast_nonneg _) ham

theorem peerHours_eq : peerHours x s = (List.finRange 12).filterMap fun b =>
    if b ≠ x.bay ∧ s.peers[b].presence = .present then some (s.peers[b].report.runHours : Int) else none := by
  refine List.filterMap_congr fun b _ => ?_
  by_cases h : b ≠ x.bay ∧ s.peers[b].presence = .present
  · rw [if_pos h, presentPeer, if_pos (by simpa using h)]
    rfl
  · rw [if_neg h, presentPeer, if_neg (by simpa using h)]
    rfl

end

/-- Settles O39. -/
theorem listeningEndsInOperating : Obligations.ListeningEndsInOperating := by
  intro s t x d hx ht hd hexec
  let c : State := { s with ageingTimer := rearmed d (statusPeriodMs x.cfg) }
  have hstep : exec .ageingTimerExpiry s = .next (ageingStep x c) :=
    congrArg _ (whenLive_due (T := fun s => s.ageingTimer) hx ht hd _)
  obtain rfl : t = countWindow x (aged x c) := by
    rw [hstep, ageingStep_eq] at hexec
    exact (Host.Outcome.next.inj hexec).symm
  obtain ⟨hload, hclock, hmin, hacc, htimer, hlost⟩ := aged_parts (x := x) (s := c)
  refine ⟨fun hp hw => ?_, fun hp hw => ?_, fun hp => ?_⟩
  · rw [countWindow_first (by rw [hload]; exact hp) (by rw [hload]; exact hw), hload]
    exact ⟨rfl, hmin, hlost⟩
  · obtain ⟨u, hu⟩ : ∃ u, u = { aged x c with loader := { (aged x c).loader with window := (aged x c).loader.window + 1 } } := ⟨_, rfl⟩
    rw [countWindow_ends (by rw [hload]; exact hp) (by rw [hload]; exact hw), ← hu]
    have huload : u.loader = { s.loader with window := s.loader.window + 1 } := by rw [hu, hload]
    obtain ⟨e1, e2, e3, e4, e5⟩ := endListening_operates (x := x) (s := u)
    have hmute (hm : s.link.tx ≠ .mute) : u.link.tx ≠ .mute := by
      rw [hu]
      exact (aged_told (x := x) (s := c)).not_mute hm
    refine ⟨e1, ?_, ?_, fun hm => (e3 (hmute hm)).handedOver, ?_, ?_, fun hg => ?_, fun hg => ?_⟩
    · by_cases hm : u.loader.mark = .lost
      · exact (endListening_adopts hm).1
      · rw [(endListening_keeps hm).1]
        cases hmark : u.loader.mark
        · rfl
        · exact absurd hmark hm
    · rw [e2, hu]
      simp only [hclock]
      rfl
    · rw [e4, hu]; exact hacc
    · rw [e5, hu]; exact htimer
    · obtain ⟨k1, k2, k3⟩ := endListening_keeps (x := x) (s := u) (by rw [huload]; simp [hg])
      refine ⟨?_, ?_, ?_⟩
      · rw [k2, hu]; exact hmin
      · rw [k3, hu]; exact hlost
      · rw [k1, huload]
    · obtain ⟨-, k2, k3, k4, k5⟩ := endListening_adopts (x := x) (s := u) (by rw [huload]; simp [hg])
      rw [peerHours_eq] at k3
      refine ⟨k2, ⟨?_, fun m hm => ?_⟩, fun hw => k5 (by rw [huload]; exact hw)⟩
      · rw [(endListening_frame x u).2.1]
        exact k3
      · rw [(endListening_frame x u).2.1, ← peerHours_eq] at hm
        rw [k4 m hm]
        have := peerHours_nonneg hm
        omega
  · rw [countWindow_idle (by rw [hload, show c.loader = s.loader from rfl, hp]; decide)]
    exact ⟨hload, hmin, hlost⟩

end Sys2Proof.Machine
end

section
/-! PROOF. The ageing of the views: the statement O38. -/

namespace Sys2Proof.Machine

set_option Elab.async false

/-! ### A list trimmed -/

section
variable {x : Ctx} {s t u : State} {l : List Claim}

/-- What a filter keeps moves up. -/
theorem getElem?_filter_le {α : Type} (q : α → Bool) (l : List α) (i : Nat) {a : α} (h : l[i]? = some a) (ha : q a = true) :
    ∃ j, j ≤ i ∧ (l.filter q)[j]? = some a := by
  induction l generalizing i with
  | nil => simp at h
  | cons b l ih =>
    cases i with
    | zero =>
      obtain rfl : b = a := by simpa using h
      exact ⟨0, le_refl 0, by simp [ha]⟩
    | succ i =>
      obtain ⟨j, hj, he⟩ := ih i (by simpa using h)
      by_cases hb : q b = true
      · exact ⟨j + 1, by omega, by simpa [hb] using he⟩
      · exact ⟨j, by omega, by simpa [hb] using he⟩

/-- A standing that removals of foreign claims can lead to. -/
def rises (a b : Standing) : Prop := (a = .none ↔ b = .none) ∧ (a = .inRange → b = .inRange)

theorem rises_filter {q : Claim → Bool} (h : ∀ e : Claim, e.bay = x.bay → q e = true) :
    rises (standingIn x l) (standingIn x (l.filter q)) := by
  refine ⟨?_, fun hi => ?_⟩
  · rw [standingIn_eq_none_iff, standingIn_eq_none_iff]
    refine ⟨fun hn e he => hn e (List.mem_of_mem_filter he), fun hn e he hb => hn e (List.mem_filter.2 ⟨he, h e hb⟩) hb⟩
  · obtain ⟨i, e, hlt, he, hb⟩ := standingIn_eq_inRange_iff.1 hi
    obtain ⟨j, hj, hf⟩ := getElem?_filter_le q l i he (h e hb)
    exact standingIn_eq_inRange_iff.2 ⟨j, e, by omega, hf, hb⟩

/-- A way back to the standing it began with goes nowhere. -/
theorem rises_back {a b c : Standing} (h1 : rises a b) (h2 : rises b c) (h : c = a) : b = a := by
  cases a <;> cases b <;> cases c <;> simp_all [rises]

theorem rises.trans {a b c : Standing} (h1 : rises a b) (h2 : rises b c) : rises a c :=
  ⟨h1.1.trans h2.1, fun h => h2.2 (h1.2 h)⟩

/-- The wash has a claim in the list, or has been aborted or completed from there. -/
def drawing (s : State) : Prop := s.screen.wash = .waiting ∨ s.screen.wash = .washing ∨ s.screen.wash = .yielded

/-- The wash has been ended with its RELEASE. -/
def released (tag : Nat) (m : Prop) (s : State) : Prop := s.screen.wash = .releasing ∧ s.screen.spray = false ∧
  s.screen.cycleTimer = none ∧ (m → Held (.release tag) s)

theorem releaseClaim_released : released s.screen.tag (s.link.tx ≠ .mute) (releaseClaim x s) := by
  obtain ⟨h1, -, -, -, -, -, h2, -, -, -, -, -, h3⟩ := releaseClaim_screen (x := x) (s := s)
  exact ⟨h1, h3, h2, releaseClaim_held⟩

theorem enterWashing_draws :
    drawing (enterWashing x s) ∨ released s.screen.tag (s.link.tx ≠ .mute) (enterWashing x s) := by
  obtain ⟨h1, h2, -⟩ := washLoaded_screen (x := x) (s := s)
  rw [enterWashing_eq]
  unfold continueWash
  split
  · obtain ⟨r1, r2, r3, r4⟩ := releaseClaim_released (x := x) (s := washLoaded x s)
    rw [h2] at r4
    exact .inr ⟨r1, r2, r3, fun hm => r4 ((washLoaded_told (w := false)).not_mute hm)⟩
  · exact .inl (.inr (.inl (freshCycle_screen.1.trans h1)))

theorem handStanding_draws (h : drawing s) (st : Standing) :
    drawing (handStanding x st s) ∨ released s.screen.tag (s.link.tx ≠ .mute) (handStanding x st s) := by
  have hwash (w : WashState) : (setWash x w s).screen.wash = w := by simp
  rcases h with h | h | h
  · cases st <;> simp only [handStanding, h]
    · exact .inl (.inl h)
    · exact enterWashing_draws
    · exact .inl (.inl h)
  · cases st <;> simp only [handStanding, h]
    · exact .inl (.inr (.inl h))
    · exact .inl (.inr (.inl h))
    · exact .inl (.inr (.inr (by simp [yieldWash])))
  · cases st <;> simp only [handStanding, h]
    · exact .inl (.inr (.inr h))
    · exact enterWashing_draws
    · exact .inl (.inr (.inr h))

theorem handStanding_tag (st : Standing) :
    (handStanding x st s).screen.tag = s.screen.tag ∧ (handStanding x st s).screen.cls = s.screen.cls := by
  have hc (u : State) : (continueWash x u).screen.tag = u.screen.tag ∧ (continueWash x u).screen.cls = u.screen.cls := by
    unfold continueWash
    split
    · exact ⟨releaseClaim_screen.2.1, releaseClaim_screen.2.2.1⟩
    · obtain ⟨-, -, -, -, -, -, -, h1, h2, -⟩ := freshCycle_screen (x := x) (s := u)
      exact ⟨h1, h2⟩
  have he : (enterWashing x s).screen.tag = s.screen.tag ∧ (enterWashing x s).screen.cls = s.screen.cls := by
    obtain ⟨h1, h2⟩ := hc (washLoaded x s)
    exact ⟨h1.trans (by simp [washLoaded, startCycleTimer]), h2.trans (by simp [washLoaded, startCycleTimer])⟩
  unfold handStanding
  split
  · exact he
  · simp
  · exact he
  · simp [yieldWash, stopWashing]
  · exact he
  · exact ⟨rfl, rfl⟩

theorem releaseClaim_keeps {f : TxFrame} (h : Held f s) : Held f (releaseClaim x s) := by
  unfold releaseClaim
  exact (setWash_told x _ .releasing).held (.offer (.of_link h rfl))

theorem handStanding_held {f : TxFrame} (st : Standing) (h : Held f s) : Held f (handStanding x st s) := by
  have he : Held f (enterWashing x s) := by
    rw [enterWashing_eq]
    unfold continueWash
    split
    · exact releaseClaim_keeps ((washLoaded_told (w := false)).held h)
    · exact .of_link ((washLoaded_told (x := x) (w := false)).held h) (by simp)
  unfold handStanding
  split
  · exact he
  · exact (setWash_told x s .waiting).held h
  · exact he
  · exact (setWash_told x _ .yielded).held (.of_link h rfl)
  · exact he
  · exact h

/-- From the first state to the second foreign claims have left the list, and their standings have been handed over. -/
structure Trimmed (x : Ctx) (s t : State) : Prop where
  bays  : ∀ e ∈ t.claims.entries, ∃ d ∈ s.claims.entries, d.bay = e.bay
  rise  : rises (standingIn x s.claims.entries) (standingIn x t.claims.entries)
  still : standingIn x t.claims.entries = standingIn x s.claims.entries → t.screen.wash = s.screen.wash
  none  : standingIn x s.claims.entries = .none → t.screen = s.screen ∧ t.link = s.link
  rests : s.screen.wash = .idle ∨ s.screen.wash = .releasing → t.screen = s.screen ∧ t.link = s.link
  draws : drawing s → drawing t ∨ released s.screen.tag (s.link.tx ≠ .mute) t
  tag   : t.screen.tag = s.screen.tag ∧ t.screen.cls = s.screen.cls
  held  : ∀ f, Held f s → Held f t
  tx    : s.link.tx ≠ .mute → t.link.tx ≠ .mute

namespace Trimmed

/-- Nothing of the wash or the list has moved. -/
theorem of_eq (hc : t.claims = s.claims := by simp) (hs : t.screen = s.screen := by simp) (hl : t.link = s.link := by simp) :
    Trimmed x s t where
  bays e he := ⟨e, by rwa [← hc], rfl⟩
  rise := by rw [hc]; exact ⟨Iff.rfl, id⟩
  still _ := by rw [hs]
  none _ := ⟨hs, hl⟩
  rests _ := ⟨hs, hl⟩
  draws h := .inl (by unfold drawing; rwa [hs])
  tag := by rw [hs]; exact ⟨rfl, rfl⟩
  held _ h := .of_link h hl
  tx h := by rwa [hl]

theorem trans (h : Trimmed x s t) (k : Trimmed x t u) : Trimmed x s u where
  bays e he := by
    obtain ⟨d, hd, hb⟩ := k.bays e he
    obtain ⟨c, hc, hcb⟩ := h.bays d hd
    exact ⟨c, hc, hcb.trans hb⟩
  rise := h.rise.trans k.rise
  still hst := by
    have hmid := rises_back h.rise k.rise hst
    exact (k.still (hst.trans hmid.symm)).trans (h.still hmid)
  none hn := by
    obtain ⟨h1, h2⟩ := h.none hn
    obtain ⟨k1, k2⟩ := k.none (h.rise.1.1 hn)
    exact ⟨k1.trans h1, k2.trans h2⟩
  rests hw := by
    obtain ⟨h1, h2⟩ := h.rests hw
    obtain ⟨k1, k2⟩ := k.rests (by rwa [h1])
    exact ⟨k1.trans h1, k2.trans h2⟩
  draws hd := by
    rcases h.draws hd with hd' | ⟨r1, r2, r3, r4⟩
    · refine (k.draws hd').imp id fun ⟨r1, r2, r3, r4⟩ => ⟨r1, r2, r3, fun hm => ?_⟩
      rw [← h.tag.1]
      exact r4 (h.tx hm)
    · obtain ⟨k1, -⟩ := k.rests (.inr r1)
      exact .inr ⟨by rwa [k1], by rwa [k1], by rwa [k1], fun hm => k.held _ (r4 hm)⟩
  tag := ⟨k.tag.1.trans h.tag.1, k.tag.2.trans h.tag.2⟩
  held f hf := k.held f (h.held f hf)
  tx hm := k.tx (h.tx hm)

/-- A removal of foreign claims (R73, R83, R87). -/
theorem filtered (q : Claim → Bool) (h : ∀ e : Claim, e.bay = x.bay → q e = true) :
    Trimmed x s (changeList x (s.claims.entries.filter q) s) := by
  let l := s.claims.entries.filter q
  have hrise : rises (standingIn x s.claims.entries) (standingIn x l) := rises_filter h
  have hsame (hst : standingIn x l = standingIn x s.claims.entries) : changeList x l s = listed x l s := changeList_same hst
  have hbays (t : State) (ht : t.claims.entries = regraded x l) : ∀ e ∈ t.claims.entries, ∃ d ∈ s.claims.entries, d.bay = e.bay := by
    intro e he
    have hm : e.bay ∈ l.map Claim.bay := by
      rw [map_bay_eq, ← regraded_keys x l, ← map_bay_eq, ← ht]
      exact List.mem_map_of_mem he
    obtain ⟨d, hd, hb⟩ := List.mem_map.1 hm
    exact ⟨d, List.mem_of_mem_filter hd, hb⟩
  refine ⟨hbays _ (by simp [l]), by simpa [l] using hrise, fun hst => ?_, fun hn => ?_, fun hw => ?_, fun hd => ?_, ?_, fun f hf => ?_,
    fun hm => ?_⟩
  · rw [hsame (by simpa [l] using hst)]; rfl
  · rw [hsame ((hrise.1.1 hn).trans hn.symm)]; exact ⟨rfl, rfl⟩
  · rw [changeList_quiet hw]; exact ⟨rfl, rfl⟩
  all_goals by_cases hst : standingIn x l = standingIn x s.claims.entries
  · rw [hsame hst]; exact .inl hd
  · rw [changeList_moved hst]
    exact handStanding_draws (s := listed x l s) hd _
  · rw [hsame hst]; exact ⟨rfl, rfl⟩
  · rw [changeList_moved hst]; exact handStanding_tag (s := listed x l s) _
  · rw [hsame hst]; exact .of_link hf rfl
  · rw [changeList_moved hst]; exact handStanding_held (s := listed x l s) _ (.of_link hf rfl)
  · exact (changeList_told x s l).not_mute hm
  · exact (changeList_told x s l).not_mute hm

theorem removed {b : Bay} (h : b ≠ x.bay) : Trimmed x s (removeClaim x b s) := by
  unfold removeClaim
  split
  · refine filtered (fun e => e.bay ≠ b) fun e he => ?_
    simpa [he] using h.symm
  · exact of_eq rfl rfl rfl

theorem stripped : Trimmed x s (stripForeign x s) := filtered _ fun e he => by simpa using he

end Trimmed

/-! ### The entries aged -/

variable {b c : Bay}

/-- The entry of a bay falls SILENT at an ageing expiry (R20). -/
@[reducible] def falls (x : Ctx) (b : Bay) (p : PeerEntry) : Prop :=
  b ≠ x.bay ∧ p.presence = .present ∧ min (p.age + 1) 255 = x.cfg.silentLimit

/-- An entry after an ageing expiry (R20). -/
def agedEntry (x : Ctx) (b : Bay) (p : PeerEntry) : PeerEntry :=
  if b = x.bay ∨ p.presence = .empty then p
  else { p with
    age := min (p.age + 1) 255,
    presence := if p.presence = .present ∧ min (p.age + 1) 255 = x.cfg.silentLimit then .silent else p.presence }

theorem ageEntry_falls (h : falls x b s.peers[b]) : ageEntry x s b =
    fallSilent x b { s with peers := s.peers.set b { s.peers[b] with age := min (s.peers[b].age + 1) 255 } } := by
  obtain ⟨h1, h2, h3⟩ := h
  have h0 : ¬(b = x.bay ∨ s.peers[b].presence = .empty) := by simp only [h1, h2, false_or]; decide
  unfold ageEntry
  rw [if_neg (by simpa using h0)]
  exact if_pos (by simpa using ⟨h2, h3⟩)

theorem ageEntry_stays (h : ¬falls x b s.peers[b]) : ageEntry x s b = { s with peers := s.peers.set b (agedEntry x b s.peers[b]) } := by
  unfold ageEntry
  by_cases h0 : b = x.bay ∨ s.peers[b].presence = .empty
  · rw [if_pos (by simpa using h0), agedEntry, if_pos h0]
    simp
  · have h1 : ¬(s.peers[b].presence = .present ∧ min (s.peers[b].age + 1) 255 = x.cfg.silentLimit) :=
      fun hp => h ⟨fun hb => h0 (.inl hb), hp⟩
    rw [if_neg (by simpa using h0), agedEntry, if_neg h0, if_neg h1]
    exact if_neg (by simpa using h1)

theorem agedEntry_falls {p : PeerEntry} (h : falls x b p) : agedEntry x b p = { p with age := min (p.age + 1) 255, presence := .silent } := by
  obtain ⟨h1, h2, h3⟩ := h
  rw [agedEntry, if_neg (by simp [h1, h2]), if_pos ⟨h2, h3⟩]

theorem removeClaim_gone : ∀ e ∈ (removeClaim x b s).claims.entries, e.bay ≠ b := by
  intro e he
  unfold removeClaim at he
  split at he
  next =>
    have hm : e.bay ∈ (withoutBay b s.claims.entries).map Claim.bay := by
      rw [changeList_entries] at he
      rw [map_bay_eq, ← regraded_keys x, ← map_bay_eq]
      exact List.mem_map_of_mem he
    obtain ⟨d, hd, hb⟩ := List.mem_map.1 hm
    rw [← hb]
    simpa using (List.mem_filter.1 hd).2
  next hno => exact fun hb => hno (List.any_eq_true.2 ⟨e, he, by simpa using hb⟩)

/-- A bay that falls SILENT loses its claim (R20, R83). -/
theorem fallSilent_claim (h : b ≠ x.bay) : Trimmed x s (fallSilent x b s) ∧ ∀ e ∈ (fallSilent x b s).claims.entries, e.bay ≠ b := by
  obtain ⟨p, hc, hs, hl, hp⟩ : ∃ p : State, p.claims = s.claims ∧ p.screen = s.screen ∧ p.link = s.link ∧
      fallSilent x b s = invalidateLane b (removeClaim x b p) :=
    ⟨{ s with peers := s.peers.set b { s.peers[b] with presence := .silent } }, rfl, rfl, rfl, rfl⟩
  rw [hp]
  exact ⟨.trans (.of_eq hc hs hl) (.trans (.removed h) (.of_eq rfl rfl rfl)), removeClaim_gone (s := p)⟩

/-- One entry aged: the others and their lanes stand. -/
theorem ageEntry_parts : (ageEntry x s b).peers = s.peers.set b (agedEntry x b s.peers[b]) ∧
    (ageEntry x s b).fouling = { s.fouling with lanes := (ageEntry x s b).fouling.lanes } ∧
    (∀ c : Bay, c ≠ b → (ageEntry x s b).fouling.lanes[c] = s.fouling.lanes[c]) ∧
    (falls x b s.peers[b] → (ageEntry x s b).fouling.lanes[b] = { s.fouling.lanes[b] with invalidated := true } ∧
      ∀ e ∈ (ageEntry x s b).claims.entries, e.bay ≠ b) ∧
    (¬falls x b s.peers[b] → (ageEntry x s b).fouling.lanes[b] = s.fouling.lanes[b]) ∧
    Trimmed x s (ageEntry x s b) := by
  by_cases h : falls x b s.peers[b]
  · have hclaim : Trimmed x s (ageEntry x s b) ∧ ∀ e ∈ (ageEntry x s b).claims.entries, e.bay ≠ b := by
      obtain ⟨p, pc, ps, pl, hp⟩ : ∃ p : State, p.claims = s.claims ∧ p.screen = s.screen ∧ p.link = s.link ∧
          ageEntry x s b = fallSilent x b p :=
        ⟨{ s with peers := s.peers.set b { s.peers[b] with age := min (s.peers[b].age + 1) 255 } }, rfl, rfl, rfl, ageEntry_falls h⟩
      rw [hp]
      obtain ⟨h1, h2⟩ := fallSilent_claim (s := p) h.1
      exact ⟨.trans (.of_eq pc ps pl) h1, h2⟩
    refine ⟨?_, ?_, fun c hc => ?_, fun _ => ⟨?_, hclaim.2⟩, fun hn => absurd h hn, hclaim.1⟩
    all_goals rw [ageEntry_falls h]
    · rw [agedEntry_falls h]
      simp [fallSilent, invalidateLane]
    · simp [fallSilent, invalidateLane]
    · have hcb : (b : Nat) ≠ c := fun hv => hc (Fin.ext hv.symm)
      simp [fallSilent, invalidateLane, Vector.getElem_set_ne _ _ hcb]
    · simp [fallSilent, invalidateLane]
  · rw [ageEntry_stays h]
    exact ⟨rfl, rfl, fun _ _ => rfl, fun hf => absurd hf h, fun _ => rfl, .of_eq⟩

/-- A fold over the bays whose step at a bay moves that bay's part alone leaves each bay met with its part moved once. -/
theorem foldl_at {α : Type} (v : State → Bay → α) (g : Bay → α → α) (f : State → Bay → State)
    (hf : ∀ s b, v (f s b) b = g b (v s b)) (hn : ∀ s b c, c ≠ b → v (f s b) c = v s c) (l : List Bay) (hl : l.Nodup) (s : State) (c : Bay) :
    v (l.foldl f s) c = if c ∈ l then g c (v s c) else v s c := by
  induction l generalizing s with
  | nil => simp
  | cons b l ih =>
    obtain ⟨hb, hl⟩ := List.nodup_cons.1 hl
    rw [List.foldl_cons, ih hl]
    by_cases hc : c = b
    · subst hc
      simp [hb, hf]
    · simp [hc, hn s b c hc]

theorem ageEntry_other (hc : c ≠ b) : (ageEntry x s b).peers[c] = s.peers[c] := by
  have hcb : (b : Nat) ≠ c := fun hv => hc (Fin.ext hv.symm)
  rw [ageEntry_parts.1]
  exact Vector.getElem_set_ne _ _ hcb

theorem ageFold_trimmed (l : List Bay) : Trimmed x s (l.foldl (ageEntry x) s) :=
  foldl_keeps_law (P := Trimmed x s) _ (fun _ _ h => h.trans ageEntry_parts.2.2.2.2.2) l (.of_eq rfl rfl rfl)

/-- A claim lost in the fold is not listed again. -/
theorem ageFold_gone {l : List Bay} (hb : b ∈ l) (hf : falls x b s.peers[b]) :
    ∀ e ∈ (l.foldl (ageEntry x) s).claims.entries, e.bay ≠ b := by
  induction l generalizing s with
  | nil => cases hb
  | cons c l ih =>
    rw [List.foldl_cons]
    by_cases hc : b = c
    · subst hc
      intro e he
      obtain ⟨d, hd, hdb⟩ := (ageFold_trimmed (x := x) l).bays e he
      rw [← hdb]
      exact (ageEntry_parts.2.2.2.1 hf).2 d hd
    · exact ih ((List.mem_cons.1 hb).resolve_left hc) (by rwa [ageEntry_other hc])

/-- The entries and the lanes after an ageing expiry, and the list it leaves (R20). -/
theorem ageEntries_parts : (∀ b : Bay, (ageEntries x s).peers[b] = agedEntry x b s.peers[b]) ∧
    (∀ b : Bay, ¬falls x b s.peers[b] → (ageEntries x s).fouling.lanes[b] = s.fouling.lanes[b]) ∧
    (∀ b : Bay, falls x b s.peers[b] → (ageEntries x s).fouling.lanes[b] = { s.fouling.lanes[b] with invalidated := true }) ∧
    (∀ b : Bay, falls x b s.peers[b] → ∀ e ∈ (ageEntries x s).claims.entries, e.bay ≠ b) ∧
    (ageEntries x s).fouling = { s.fouling with lanes := (ageEntries x s).fouling.lanes } ∧ Trimmed x s (ageEntries x s) := by
  have hown (s : State) (b : Bay) : (ageEntry x s b).peers[b] = agedEntry x b s.peers[b] := by
    rw [ageEntry_parts.1]
    simp
  have hboth := foldl_at (fun s b => (s.peers[b], s.fouling.lanes[b]))
    (fun b p => (agedEntry x b p.1, if falls x b p.1 then { p.2 with invalidated := true } else p.2)) (ageEntry x)
    (fun s b => Prod.ext (hown s b) (by
      obtain ⟨-, -, -, h1, h2, -⟩ := ageEntry_parts (x := x) (s := s) (b := b)
      dsimp only
      split
      next h => exact (h1 h).1
      next h => exact h2 h))
    (fun s b c hc => Prod.ext (ageEntry_other hc) (ageEntry_parts.2.2.1 c hc)) (List.finRange 12) (List.nodup_finRange 12) s
  have hat (b : Bay) := hboth b
  simp only [List.mem_finRange, if_true, Prod.ext_iff] at hat
  change ∀ b : Bay, (ageEntries x s).peers[b] = _ ∧ (ageEntries x s).fouling.lanes[b] = _ at hat
  refine ⟨fun b => (hat b).1, fun b hf => (hat b).2.trans (if_neg hf), fun b hf => (hat b).2.trans (if_pos hf), ?_, ?_, ?_⟩
  all_goals unfold ageEntries
  · exact fun b hf => ageFold_gone (List.mem_finRange b) hf
  · refine foldl_keeps_law (P := fun t => t.fouling = { s.fouling with lanes := t.fouling.lanes }) _ (fun t b h => ?_) _ rfl
    have hstep := (ageEntry_parts (x := x) (s := t) (b := b)).2.1
    rw [hstep, h]
  · exact ageFold_trimmed _

/-! ### The change to ISOLATED -/

theorem abortWash_ends : (abortWash x s).screen.wash = .idle ∨ (abortWash x s).screen.wash = .releasing := by
  cases hw : s.screen.wash with
  | idle => rw [abortWash_none (.inl hw)]; exact .inl hw
  | releasing => rw [abortWash_none (.inr hw)]; exact .inr hw
  | waiting | washing | yielded => rw [abortWash_releases (by simp [hw])]; exact .inr releaseClaim_screen.1
  | claiming =>
    by_cases hq : ∃ k n, .claim s.screen.tag k n ∈ s.link.queue
    · rw [abortWash_cancels hw hq]; exact .inl (by simp)
    · rw [abortWash_releases (.inr (.inr (.inr ⟨hw, hq⟩)))]; exact .inr releaseClaim_screen.1

/-- An abort cancels a CLAIM alone. -/
theorem abortWash_held (h : Held .status s) : Held .status (abortWash x s) := by
  cases hw : s.screen.wash with
  | idle | releasing => rwa [abortWash_none (by simp [hw])]
  | waiting | washing | yielded => rw [abortWash_releases (by simp [hw])]; exact releaseClaim_keeps h
  | claiming =>
    by_cases hq : ∃ k n, .claim s.screen.tag k n ∈ s.link.queue
    · rw [abortWash_cancels hw hq]
      exact (setWash_told x _ .idle).held (h.imp (fun h => List.mem_filter.2 ⟨h, rfl⟩) id)
    · rw [abortWash_releases (.inr (.inr (.inr ⟨hw, hq⟩)))]; exact releaseClaim_keeps h

/-- A ROUTINE claim is aborted at a change to ISOLATED, beside the removal of the foreign ones (R87, R98). -/
theorem isolateWash_routine (h : s.screen.cls = .routine) : ∃ y z : State, y.claims = s.claims ∧ y.screen = s.screen ∧
    y.link = s.link ∧ Trimmed x y z ∧ (isolateWash x s).screen = (abortWash x z).screen ∧
    (isolateWash x s).link = (abortWash x z).link := by
  obtain ⟨c, hc, h1, h2, h3⟩ : ∃ c : State, c = { s with choices := s.choices + 1 } ∧ c.claims = s.claims ∧ c.screen = s.screen ∧
    c.link = s.link := ⟨_, rfl, rfl, rfl, rfl⟩
  unfold isolateWash
  rw [if_pos h]
  rcases eitherOrder_cases (stripForeign x) (abortWash x) s with he | he <;> rw [he, ← hc]
  · exact ⟨c, stripForeign x c, h1, h2, h3, .stripped, rfl, rfl⟩
  · obtain ⟨k1, k2⟩ := (Trimmed.stripped (x := x) (s := abortWash x c)).rests abortWash_ends
    exact ⟨c, c, h1, h2, h3, .of_eq rfl rfl rfl, k1, k2⟩

theorem isolateWash_urgent (h : s.screen.cls = .urgent) : isolateWash x s = stripForeign x s := if_neg (by simp [h])

/-- The list a change to ISOLATED leaves is that of a removal of the foreign claims. -/
theorem isolateWash_claims : (isolateWash x s).claims = (stripForeign x s).claims := by
  have hs (u : State) (hu : u.claims = s.claims) : (stripForeign x u).claims = (stripForeign x s).claims := by
    rw [stripForeign, stripForeign, changeList_claims, changeList_claims, hu]
    simp [listed, hu]
  unfold isolateWash
  split
  · rcases eitherOrder_cases (stripForeign x) (abortWash x) s with he | he <;> rw [he]
    · rw [(abortWash_frame x _).2.2.2.2.2.2.2.2.2.2.2.2.1]
      exact hs _ rfl
    · exact hs _ (by simp)
  · rfl

theorem isolateWash_own : ∀ e ∈ (isolateWash x s).claims.entries, e.bay = x.bay := by
  intro e he
  have hm : e.bay ∈ (s.claims.entries.filter fun e => e.bay = x.bay).map Claim.bay := by
    rw [isolateWash_claims, stripForeign, changeList_entries] at he
    rw [map_bay_eq, ← regraded_keys x, ← map_bay_eq]
    exact List.mem_map_of_mem he
  obtain ⟨d, hd, hb⟩ := List.mem_map.1 hm
  rw [← hb]
  simpa using (List.mem_filter.1 hd).2

theorem isolateWash_held (h : Held .status s) : Held .status (isolateWash x s) := by
  have hstrip (u : State) (hu : Held .status u) : Held .status (stripForeign x u) := (Trimmed.stripped (x := x)).held _ hu
  unfold isolateWash
  split
  · rcases eitherOrder_cases (stripForeign x) (abortWash x) s with he | he <;> rw [he]
    · exact abortWash_held (hstrip _ (.of_link h rfl))
    · exact hstrip _ (abortWash_held (.of_link h rfl))
  · exact hstrip _ h

/-- What waits after blocks have told STATUS alone waited before, or is a STATUS. -/
theorem Told.mem_of {f : TxFrame} (h : Told x false s t) (hf : f ∈ t.link.queue) : f ∈ s.link.queue ∨ f = .status := by
  induction h with
  | quiet _ _ _ _ hq _ => exact .inl (by rwa [← hq])
  | offer g s hg =>
    obtain rfl := hg.resolve_left (by decide)
    exact mem_queue_of_offer hf
  | cond a v s _ =>
    rcases setCond_link x a v s with h | ⟨u, hu, h⟩ <;> rw [h] at hf
    · exact .inl hf
    · rw [← hu]; exact mem_queue_of_offer hf
  | acked s => exact .inl hf
  | cancel p s h => cases h
  | trans _ _ ih1 ih2 => exact (ih2 hf).elim ih1 .inr

/-! ### A stage formed over the list and the wash -/

variable {st : Stage}

/-- A change to another stage than ISOLATED leaves the list and the controller (R31). -/
theorem setStage_still (h : ¬(st = .isolated ∧ s.ladder.stage ≠ .isolated)) :
    (setStage x st s).claims = s.claims ∧ (setStage x st s).screen = s.screen := by
  by_cases hs : s.ladder.stage = st
  · rw [setStage_same hs]
    exact ⟨rfl, rfl⟩
  · have hst : st ≠ .isolated := fun hst => h ⟨hst, hst ▸ hs⟩
    rw [setStage_moved hs, stageMet, if_neg hst]
    simp

/-- What a change to ISOLATED leaves of the list and the controller, and the blocks that still tell STATUS after it. -/
theorem setStage_isolates (h : s.ladder.stage ≠ .isolated) : ∃ u : State, u.claims = s.claims ∧ u.screen = s.screen ∧
    u.link = (offerStatus x s).link ∧ (setStage x .isolated s).claims = (isolateWash x u).claims ∧
    (setStage x .isolated s).screen = (isolateWash x u).screen ∧ Told x false (isolateWash x u) (setStage x .isolated s) := by
  let u := offerStatus x { s with ladder := { s.ladder with stage := .isolated } }
  refine ⟨u, by simp [u], by simp [u], ?_, ?_, ?_, ?_⟩
  · unfold u offerStatus offer takeNext
    dsimp only
    split_ifs
    · rfl
    · rfl
    · split <;> rfl
  · rw [setStage_moved h]
    simp [stageMet, u]
  · rw [setStage_moved h]
    simp [stageMet, u]
  · rw [setStage_moved h, stageMet, if_pos rfl]
    exact .trans (isolatedAtPump_told x _) (.cond _ _ _ (by decide))

/-- An offer of a STATUS leaves the other frames that wait, as an IDLE transmitter has none. -/
theorem offerStatus_queue {f : TxFrame} (h : s.link.tx = .idle → s.link.queue = []) (hf : f ≠ .status) :
    f ∈ (offerStatus x s).link.queue ↔ f ∈ s.link.queue := by
  refine ⟨fun hq => (mem_queue_of_offer hq).resolve_right hf, fun hq => mem_queue_offer (fun hi => ?_) hq⟩
  rw [h hi] at hq
  cases hq

/-- A change to ISOLATED aborts a ROUTINE wash, its list trimmed before or after (R98). -/
theorem isolates_routine (h : st = .isolated) (hs : s.ladder.stage ≠ .isolated) (hr : s.screen.cls = .routine) : ∃ y z : State,
    Trimmed x y z ∧ y.claims = s.claims ∧ y.screen = s.screen ∧ y.link = (offerStatus x s).link ∧
    (setStage x st s).screen = (abortWash x z).screen ∧ (∀ f, Held f (abortWash x z) → Held f (setStage x st s)) ∧
    ∀ f ∈ (setStage x st s).link.queue, f ∈ (abortWash x z).link.queue ∨ f = .status := by
  subst h
  obtain ⟨u, uc, us, ul, -, ws, wtold⟩ := setStage_isolates (x := x) hs
  obtain ⟨y, z, yc, ys, yl, htrim, is, il⟩ := isolateWash_routine (x := x) (s := u) (by rw [us, hr])
  refine ⟨y, z, htrim, yc.trans uc, ys.trans us, yl.trans ul, ws.trans is, fun f hf => wtold.held (.of_link hf il), fun f hf => ?_⟩
  rw [← il]
  exact wtold.mem_of hf

/-- A wash that draws on its claim is ended by an abort that follows removals and an offer of a STATUS. -/
theorem drawing_aborted {v y z : State} (h : Trimmed x s v) (hs : y.screen = v.screen) (hl : y.link = (offerStatus x v).link)
    (k : Trimmed x y z) (hd : drawing s) : released s.screen.tag (s.link.tx ≠ .mute) (abortWash x z) := by
  have hmute (hm : s.link.tx ≠ .mute) : y.link.tx ≠ .mute := by
    rw [hl]
    exact offer_tx_ne_mute (h.tx hm)
  have hz : drawing z ∨ released s.screen.tag (s.link.tx ≠ .mute) z := by
    rcases h.draws hd with hv | ⟨r1, r2, r3, r4⟩
    · refine (k.draws (by unfold drawing; rwa [hs])).imp id fun ⟨r1, r2, r3, r4⟩ => ⟨r1, r2, r3, fun hm => ?_⟩
      rw [← h.tag.1, ← hs]
      exact r4 (hmute hm)
    · obtain ⟨k1, -⟩ := k.rests (by rw [hs]; exact .inr r1)
      refine .inr ⟨by rw [k1, hs, r1], by rw [k1, hs, r2], by rw [k1, hs, r3], fun hm => k.held _ ?_⟩
      exact .of_link (s := offerStatus x v) (.offer (r4 hm)) hl
  rcases hz with hz | hz
  · obtain ⟨r1, r2, r3, r4⟩ := releaseClaim_released (x := x) (s := z)
    rw [abortWash_releases (hz.imp id fun h => h.imp id .inl)]
    refine ⟨r1, r2, r3, fun hm => ?_⟩
    rw [← h.tag.1, ← hs, ← k.tag.1]
    exact r4 (k.tx (hmute hm))
  · rwa [abortWash_none (.inr hz.1)]

/-- A change of stage hands a STATUS over (R31). -/
theorem setStage_held (h : s.ladder.stage ≠ st) (hm : s.link.tx ≠ .mute) : Held .status (setStage x st s) := by
  have hoff : Held .status (offerStatus x { s with ladder := { s.ladder with stage := st } }) :=
    held_offer (s := { s with ladder := { s.ladder with stage := st } }) hm
  rw [setStage_moved h]
  refine (Told.cond (w := false) _ _ _ (by decide)).held ?_
  unfold stageMet
  dsimp only
  split
  · exact (isolatedAtPump_told x _).held (isolateWash_held hoff)
  · exact hoff

theorem setStage_bays : ∀ e ∈ (setStage x st s).claims.entries, ∃ d ∈ s.claims.entries, d.bay = e.bay := by
  intro e he
  by_cases h : st = .isolated ∧ s.ladder.stage ≠ .isolated
  · obtain ⟨rfl, hs⟩ := h
    obtain ⟨u, hu, -, -, hc, -⟩ := setStage_isolates (x := x) hs
    rw [hc, isolateWash_claims] at he
    rw [← hu]
    exact (Trimmed.stripped (x := x) (s := u)).bays e he
  · rw [(setStage_still h).1] at he
    exact ⟨e, he, rfl⟩

theorem setStage_linkIsolated (h : s.conds.linkIsolated = true ↔ s.ladder.stage = .isolated) :
    (setStage x st s).conds.linkIsolated = decide (st = .isolated) := by
  have := setStage_isolated (x := x) (st := st) h
  by_cases hst : st = .isolated <;> simp_all

/-- The LISTENING window leaves the wash. -/
theorem countWindow_wash : (countWindow x s).screen.wash = s.screen.wash ∧ (countWindow x s).screen.spray = s.screen.spray ∧
    (countWindow x s).screen.cycleTimer = s.screen.cycleTimer ∧ (countWindow x s).pump.state = s.pump.state ∧
    (countWindow x s).pump.cause = s.pump.cause := by
  unfold countWindow endListening
  dsimp only
  split_ifs <;> simp [enterOperating, adoptHours]

theorem countWindow_rest : (countWindow x s).pending = s.pending ∧ (countWindow x s).inReset = s.inReset ∧
    (countWindow x s).clock = s.clock ∧ (countWindow x s).lines = s.lines ∧ (countWindow x s).front = s.front ∧
    (countWindow x s).ageingTimer = s.ageingTimer ∧ (countWindow x s).tide = s.tide ∧ (countWindow x s).duty = s.duty := by
  unfold countWindow endListening
  dsimp only
  split_ifs <;> simp [enterOperating, adoptHours]

theorem falls_iff {p : PeerEntry} : falls x b p ↔ p.presence = .present ∧ (agedEntry x b p).presence = .silent := by
  refine ⟨fun h => ⟨h.2.1, by rw [agedEntry_falls h]⟩, fun ⟨h1, h2⟩ => ?_⟩
  unfold agedEntry at h2
  split at h2
  next => rw [h1] at h2; cases h2
  next hb =>
    dsimp only at h2
    split at h2
    next hn => exact ⟨fun h => hb (.inl h), hn⟩
    next => rw [h1] at h2; cases h2

theorem ageOrder_eq (hc : settingsAllowed x.cfg = true) : (ageOrder x s).order = { s.order with
    age := min (s.order.age + 1) 255,
    demandHeld := !s.order.heard || decide (x.cfg.demandTimeout * 4 ≤ min (s.order.age + 1) 255 * x.cfg.statusPeriod) } := by
  have hp : 0 < x.cfg.statusPeriod := by
    simp only [settingsAllowed, levelsInRange, between, Bool.and_eq_true, decide_eq_true_eq] at hc
    omega
  have hd : demandTimeoutPeriods x.cfg ≤ min (s.order.age + 1) 255 ↔
      x.cfg.demandTimeout * 4 ≤ min (s.order.age + 1) 255 * x.cfg.statusPeriod := by
    rw [demandTimeoutPeriods, Nat.div_le_iff_le_mul_add_pred hp, Nat.mul_comm x.cfg.statusPeriod]
    omega
  simp [ageOrder, hd]

end

/-- Settles O38. -/
theorem ageingExpiryAgesTheViews : Obligations.AgeingExpiryAgesTheViews := by
  intro s x d h hx ht hd
  obtain ⟨c, hc⟩ : ∃ c : State, c = { s with ageingTimer := rearmed d (statusPeriodMs x.cfg) } := ⟨_, rfl⟩
  have hstep : exec .ageingTimerExpiry s = .next (countWindow x (aged x c)) := by
    rw [hc, ← ageingStep_eq]
    exact congrArg _ (whenLive_due (T := fun s => s.ageingTimer) hx ht hd _)
  let v := counted x c
  let st := nextStage x c
  let w := setStage x st v
  change _ = Host.Outcome.next (countWindow x w) at hstep
  obtain ⟨epeers, elanes, efalls, egone, efouling, etrim⟩ := ageEntries_parts (x := x) (s := c)
  obtain ⟨twash, tspray, tcycle, tstate, tcause⟩ := countWindow_wash (x := x) (s := w)
  obtain ⟨wpump, wfouling, wloader⟩ := setStage_parts (x := x) (st := st) (s := v)
  obtain ⟨ccl, cfo, csc, cpu, cpe, cli, cla, cco, cor⟩ : c.claims = s.claims ∧ c.fouling = s.fouling ∧ c.screen = s.screen ∧
      c.pump = s.pump ∧ c.peers = s.peers ∧ c.link = s.link ∧ c.ladder = s.ladder ∧ c.conds = s.conds ∧ c.order = s.order := by
    rw [hc]; exact ⟨rfl, rfl, rfl, rfl, rfl, rfl, rfl, rfl, rfl⟩
  have hvl : v.ladder.stage = s.ladder.stage := by simp [v, cla]
  have tpeers (b : Bay) : (countWindow x w).peers[b] = agedEntry x b s.peers[b] := by
    rw [← cpe, ← epeers b]
    simp [w, v]
  have tfouling : (countWindow x w).fouling = (ageEntries x c).fouling := by
    rw [(countWindow_frame x w).2.2.2.1, wfouling]
    simp [v]
  have tclaims : (countWindow x w).claims = w.claims := by simp
  have hvc : v.claims = (ageEntries x c).claims := by simp [v]
  have tladder : (countWindow x w).ladder = ⟨min (s.ladder.count + 1) 255, st⟩ := by
    simp [w, v, cla]
  have tpump : (countWindow x w).pump.state = w.pump.state ∧ (countWindow x w).pump.cause = w.pump.cause := ⟨tstate, tcause⟩
  have hvpump : v.pump = s.pump := by simp [v, cpu]
  have vtrim : Trimmed x c v := .trans etrim (.of_eq (by simp [v]) (by simp [v]) (by simp [v]))
  have isolates (h1 : st = .isolated) (h2 : s.ladder.stage ≠ .isolated) (hr : s.screen.cls = .routine) :=
    isolates_routine (x := x) (st := st) (s := v) h1 (by rwa [hvl]) (by rw [vtrim.tag.2, csc, hr])
  refine ⟨_, hstep, ?_⟩
  rw [tladder]
  refine ⟨?_, fun b hb => ?_, fun b h1 h2 => ?_, fun b h1 h2 => ?_, fun b hb => ?_, ?_, ?_, ?_, ?_, fun hn hm => ?_,
    fun h1 h2 => ⟨?_, fun hp => ?_⟩, fun hn => ?_, fun h1 h2 hr => ⟨fun hw => ?_, fun hw => ?_, fun hw hn hq => ?_⟩, fun hn hs => ?_, ?_, ?_⟩
  · rw [countWindow_rest.2.2.2.2.2.1]
    simp [w, v, hc, rearmed, statusPeriodMs]
  · rw [tpeers, agedEntry, if_pos hb]
  · rw [tpeers, agedEntry, if_neg (not_or.2 ⟨h1, h2⟩)]
  · have hf : falls x b c.peers[b] := by rw [cpe]; exact falls_iff.2 ⟨h1, by rwa [tpeers] at h2⟩
    refine ⟨by rw [tfouling, efalls b hf, cfo], fun e he => ?_⟩
    rw [tclaims] at he
    obtain ⟨a, ha, hab⟩ := setStage_bays e he
    rw [← hab]
    exact egone b hf a (by rwa [← hvc])
  · rw [tfouling, elanes b, cfo]
    rw [cpe, falls_iff]
    rintro ⟨h1, h2⟩
    rw [tpeers, h2, h1] at hb
    cases hb
  · rw [(countWindow_frame x w).2.2.1, ← cor]
    have hord : w.order = (ageOrder x c).order := by simp [w, v]
    exact hord.trans (ageOrder_eq (h.image _ ((ctx?_eq_some_iff s x).1 hx).2.2.2))
  · rfl
  · show nextStage x c = _
    rw [nextStage, cla]
    rfl
  · have hcond : (countWindow x w).conds.linkIsolated = w.conds.linkIsolated := countWindow_condsOnly x w .linkIsolated (by decide)
    rw [hcond]
    exact setStage_linkIsolated (by simpa [v, cco, cla] using h.isolated)
  · refine ((countWindow_told x w).held (setStage_held (by rw [hvl]; exact hn.symm) ?_)).handedOver
    exact counted_told.not_mute (by rwa [cli])
  · rw [tclaims]
    obtain ⟨u, -, -, -, hcl, -⟩ := setStage_isolates (x := x) (s := v) (by rw [hvl]; exact h2)
    have hwc : w.claims = (isolateWash x u).claims := by rw [← hcl, ← show st = .isolated from h1]
    rw [hwc]
    exact isolateWash_own
  · rw [tpump.1, tpump.2, wpump, if_pos ⟨h1, by rw [hvl]; exact h2, by rw [hvpump]; exact hp⟩]
    exact ⟨rfl, rfl⟩
  · rw [tpump.1, tpump.2, wpump, if_neg, hvpump]
    · exact ⟨rfl, rfl⟩
    · rintro ⟨h1, h2, -⟩
      exact hn ⟨h1, by rwa [hvl] at h2⟩
  · obtain ⟨y, z, htrim, -, ys, -, ws, -⟩ := isolates h1 h2 hr
    have hvs : v.screen = s.screen := ((vtrim.rests (by rwa [csc])).1).trans csc
    have hzs : z.screen = s.screen := (htrim.rests (by rwa [ys, hvs])).1.trans (ys.trans hvs)
    rw [twash, ws, abortWash_none (by rwa [hzs]), hzs]
  · obtain ⟨y, z, htrim, -, ys, yl, ws, wheld, -⟩ := isolates h1 h2 hr
    obtain ⟨a1, a2, a3, a4⟩ := drawing_aborted vtrim ys yl htrim (by unfold drawing; rwa [csc])
    refine ⟨?_, ?_, ?_, fun hm => ?_⟩
    · rw [twash, ws, a1]
    · rw [tspray, ws, a2]
    · rw [tcycle, ws, a3]
    · rw [← csc]
      exact ((countWindow_told x w).held (wheld _ (a4 (by rwa [cli])))).handedOver
  · obtain ⟨y, z, htrim, yc, ys, yl, ws, wheld, wqueue⟩ := isolates h1 h2 hr
    have hnone : standingIn x c.claims.entries = .none := by rwa [ccl]
    obtain ⟨e1, e2⟩ := vtrim.none hnone
    obtain ⟨z1, z2⟩ := htrim.none (by rw [yc]; exact vtrim.rise.1.1 hnone)
    have hzs : z.screen = s.screen := by rw [z1, ys, e1, csc]
    have hzl : z.link = (offerStatus x v).link := by rw [z2, yl]
    have hvl : v.link = s.link := e2.trans cli
    have hqueue : (∃ k n, .claim s.screen.tag k n ∈ z.link.queue) ↔ ∃ k n, .claim s.screen.tag k n ∈ s.link.queue := by
      rw [hzl]
      refine exists_congr fun k => exists_congr fun n => ?_
      rw [offerStatus_queue (by rwa [hvl]) (by simp), hvl]
    rw [← hqueue]
    refine ⟨fun hin => ?_, fun hout => ?_⟩
    · rw [twash, ws, abortWash_cancels (by rw [hzs, hw]) (by rwa [hzs])]
      refine ⟨by simp, fun ⟨k, n, hk⟩ => ?_⟩
      have hk' := (wqueue _ (((countWindow_told x w).mem_of hk).resolve_right (by simp))).resolve_right (by simp)
      rw [abortWash_cancels (by rw [hzs, hw]) (by rwa [hzs])] at hk'
      rw [← hzs] at hk'
      exact cancelled_gone (x := x) (s := z) (by rw [hzs, hw]) ⟨k, n, hk'⟩
    · have hrel : abortWash x z = releaseClaim x z := abortWash_releases (.inr (.inr (.inr ⟨by rw [hzs, hw], by rwa [hzs]⟩)))
      rw [twash, ws, hrel]
      refine ⟨releaseClaim_screen.1, fun hm => ((countWindow_told x w).held (wheld _ ?_)).handedOver⟩
      rw [hrel, ← hzs]
      refine releaseClaim_held ?_
      rw [hzl]
      exact offer_tx_ne_mute (by rwa [hvl])
  · rw [tclaims] at hs
    rw [← ccl] at hs
    rw [twash, ← csc]
    by_cases hiso : st = .isolated ∧ s.ladder.stage ≠ .isolated
    · obtain ⟨h1, h2⟩ := hiso
      have hurgent := hn.resolve_left fun hn => hn ⟨h1, h2⟩
      obtain ⟨u, uc, us, -, wc, ws, -⟩ := setStage_isolates (x := x) (s := v) (by rw [hvl]; exact h2)
      have hwu : w = setStage x .isolated v := by rw [← show st = .isolated from h1]
      have hu : isolateWash x u = stripForeign x u := isolateWash_urgent (by rw [us, vtrim.tag.2, csc, hurgent])
      have hstrip := Trimmed.stripped (x := x) (s := u)
      have hback := rises_back vtrim.rise (uc ▸ hstrip.rise) (by rw [hwu, wc, hu] at hs; exact hs)
      rw [hwu, ws, hu, hstrip.still (by rw [hwu, wc, hu] at hs; rw [hs, uc, hback]), us]
      exact vtrim.still hback
    · obtain ⟨k1, k2⟩ := setStage_still (x := x) (st := st) (s := v) (by rwa [hvl])
      have hw1 : w.claims = v.claims := k1
      have hw2 : w.screen = v.screen := k2
      rw [hw1] at hs
      rw [hw2]
      exact vtrim.still hs
  · rw [tfouling, ← cfo]
    exact efouling
  · obtain ⟨p1, p2, p3, p4, p5, -, p6, p7⟩ := countWindow_rest (x := x) (s := w)
    obtain ⟨q1, q2, q3, q4, q5, q6, q7⟩ : c.pending = s.pending ∧ c.inReset = s.inReset ∧ c.clock = s.clock ∧ c.lines = s.lines ∧
        c.front = s.front ∧ c.tide = s.tide ∧ c.duty = s.duty := by
      rw [hc]; exact ⟨rfl, rfl, rfl, rfl, rfl, rfl, rfl⟩
    refine State.eq_of_parts ?_ rfl ?_ ?_ ?_ ?_ rfl rfl rfl ?_ ?_ rfl rfl rfl ?_ rfl rfl rfl rfl rfl
    · rw [p1, ← q1]; simp [w, v]
    · rw [p2, ← q2]; simp [w, v]
    · rw [p3, ← q3]; simp [w, v]
    · rw [p4, ← q4]; simp [w, v]
    · rw [p5, ← q5]; simp [w, v]
    · exact tladder
    · rw [p6, ← q6]; simp [w, v]
    · rw [p7, ← q7]; simp [w, v]

end Sys2Proof.Machine
end

section
/-! PROOF. The swarm watch: the statement O16. -/

namespace Sys2Proof.Machine

set_option Elab.async false

/-! ### The rises of the lanes -/

theorem sum_selected {α : Type} (p : α → Bool) (f : α → Nat) (l : List α) :
    (l.filterMap fun b => if p b then some (f b) else none).sum = (l.map fun b => if p b then f b else 0).sum := by
  induction l with
  | nil => rfl
  | cons b l ih => cases hb : p b <;> simp [hb, ih]

theorem countP_selected {α : Type} (p : α → Bool) (q : Nat → Bool) (f : α → Nat) (l : List α) :
    (l.filterMap fun b => if p b then some (f b) else none).countP q = (l.map fun b => if p b ∧ q (f b) then 1 else 0).sum := by
  induction l with
  | nil => rfl
  | cons b l ih =>
    cases hb : p b
    · simpa [hb] using ih
    · cases hq : q (f b)
      · simpa [hb, hq] using ih
      · simp [hb, hq, ih, Nat.add_comm]

section
variable {x : Ctx} {s t : State}

/-- The rise of a lane at an expiry (R67). -/
def laneRise (x : Ctx) (s : State) (b : Bay) : Nat := (laneNow x s b).index - s.fouling.lanes[b].index

theorem laneDeltas_eq : laneDeltas x s = (List.finRange 12).filterMap fun b =>
    if laneCounts s.fouling.lanes[b] (laneNow x s b) then some (laneRise x s b) else none := rfl

theorem laneDeltas_sum : (laneDeltas x s).sum =
    (Finset.univ.filter fun b : Bay => laneCounts s.fouling.lanes[b] (laneNow x s b) = true).sum (laneRise x s) := by
  rw [laneDeltas_eq, sum_selected, Finset.sum_filter, Fin.sum_univ_def]

theorem risingCount_eq (c : Settings) : risingCount c (laneDeltas x s) =
    (Finset.univ.filter fun b : Bay => laneCounts s.fouling.lanes[b] (laneNow x s b) = true ∧ c.swarmStep ≤ laneRise x s b).card := by
  rw [laneDeltas_eq, risingCount, countP_selected, Finset.card_filter, Fin.sum_univ_def]
  simp

theorem laneCounts_iff {l : Lane} {n : LaneNow} : laneCounts l n = true ↔
    l.present = true ∧ n.present = true ∧ l.invalidated = false ∧ l.stale = false ∧ n.stale = false := by
  simp [laneCounts, and_assoc]

/-! ### The drive -/

/-- A move that leaves the drive leaves the capture and the window. -/
theorem driveMoves_still (h : driveMoves x s t) (hd : t.screen.drive = s.screen.drive) : driveParts t.screen = driveParts s.screen := by
  obtain ⟨h1, -, h3⟩ := h
  rw [if_neg fun hn => hn.2 (hd.trans hn.1)] at h3
  simp [driveParts, hd, h1 hd, h3]

/-- A claim made where the drive is the table's leaves it: CLAIMING draws no drive (R103). -/
theorem triggerCheck_drive {e : TriggerEvent} (h : s.screen.drive = driveChoice s) :
    (triggerCheck x e s).screen.drive = driveChoice (triggerCheck x e s) ∧
    driveParts (triggerCheck x e s).screen = driveParts s.screen := by
  by_cases hn : s.screen.wash ≠ .idle ∨ s.loader.phase ≠ .operating ∨ chosenClass x.cfg e s = none
  · rw [triggerCheck_none hn]
    exact ⟨h, rfl⟩
  · simp only [not_or, not_not] at hn
    obtain ⟨hw, hp, hk⟩ := hn
    obtain ⟨k, hk⟩ := Option.ne_none_iff_exists'.1 hk
    rw [triggerCheck_some hw hp hk]
    obtain ⟨m1, -, -, -, -, m2, m3⟩ := makeClaim_made (x := x) (k := k) hw
    refine ⟨m2, driveMoves_still m3 ?_⟩
    rw [m2, h, driveChoice, driveChoice, m1, hw]
    simp

/-- What a change of SWARM leaves of the wash before its STATUS (R70). -/
def swarmMet (x : Ctx) (s : State) : State :=
  if s.fouling.swarm then triggerCheck x .swarmRise (selectDrive x s) else selectDrive x s

theorem swarmChanged_eq : swarmChanged x s = offerStatus x (swarmMet x s) := rfl

theorem swarmMet_frame : swarmMet x s = { s with screen := (swarmMet x s).screen, link := (swarmMet x s).link } := by
  unfold swarmMet
  split <;> apply State.eq_of_parts <;> simp

theorem swarmChanged_still :
    swarmChanged x s = { s with screen := (swarmMet x s).screen, link := (swarmChanged x s).link } := by
  have h := swarmMet_frame (x := x) (s := s)
  rw [swarmChanged_eq]
  apply State.eq_of_parts <;> simp only [offerStatus_frame] <;> rw [h]

theorem swarmMet_parts : (swarmMet x s).screen.drive = driveChoice (swarmMet x s) ∧ driveMoves x s (swarmMet x s) ∧
    (s.link.tx ≠ .mute → (swarmMet x s).link.tx ≠ .mute) ∧ (s.fouling.swarm = false → (swarmMet x s).screen.wash = s.screen.wash) := by
  have hd : (selectDrive x s).screen.drive = driveChoice (selectDrive x s) := selectDrive_drive x s
  unfold swarmMet
  split
  next h =>
    obtain ⟨h1, h2⟩ := triggerCheck_drive (x := x) (e := .swarmRise) hd
    exact ⟨h1, driveMoves_congr (selectDrive_moves x s) rfl rfl h2,
      fun hm => (triggerCheck_told x _ _).not_mute (by simpa using hm), fun hs => by simp [hs] at h⟩
  next => exact ⟨hd, selectDrive_moves x s, fun hm => by simpa using hm, fun _ => by simp⟩

theorem claimsBlocked_selectDrive : claimsBlocked (selectDrive x s) = claimsBlocked s := by
  rw [Bool.eq_iff_iff, claimsBlocked_iff, claimsBlocked_iff]
  simp [alarmState]

/-- A rise of SWARM makes a claim (R92 to R94). -/
theorem swarmMet_claims (hs : s.fouling.swarm = true) (hw : s.screen.wash = .idle) (hp : s.loader.phase = .operating)
    (hb : claimsBlocked s = false) (hr : routineBlocked s = false) : (swarmMet x s).screen.wash = .claiming ∧
    (swarmMet x s).screen.tag = (s.screen.tag + 1) % 16 ∧
    (x.cfg.swarmUrgentSum ≤ s.fouling.intensity → (swarmMet x s).screen.cls = .urgent) := by
  have hb' : claimsBlocked (selectDrive x s) = false := claimsBlocked_selectDrive.trans hb
  have hr' : routineBlocked (selectDrive x s) = false := by simpa [routineBlocked] using hr
  have hw' : (selectDrive x s).screen.wash = .idle := by simpa using hw
  obtain ⟨-, hurgent, hroutine, -⟩ := chosenClass_cases x.cfg .swarmRise (selectDrive x s)
  have hut := urgentTrigger_iff x.cfg .swarmRise (selectDrive x s)
  have made (k : ClaimClass) (hk : chosenClass x.cfg .swarmRise (selectDrive x s) = some k) :
      (swarmMet x s).screen.wash = .claiming ∧ (swarmMet x s).screen.tag = (s.screen.tag + 1) % 16 ∧
      (swarmMet x s).screen.cls = k := by
    obtain ⟨m1, m2, m3, -⟩ := makeClaim_made (x := x) (k := k) hw'
    rw [swarmMet, if_pos hs, triggerCheck_some hw' (by simpa using hp) hk]
    exact ⟨m1, m2.trans (by simp), m3⟩
  by_cases hu : urgentTrigger x.cfg .swarmRise (selectDrive x s) = true
  · obtain ⟨m1, m2, m3⟩ := made .urgent (hurgent hb' hu)
    exact ⟨m1, m2, fun _ => m3⟩
  · have hlow : s.fouling.intensity < x.cfg.swarmUrgentSum := by
      by_contra hge
      exact hu (hut.2 (.inr ⟨rfl, by simpa using hge⟩))
    obtain ⟨m1, m2, -⟩ := made .routine (hroutine hb' (Bool.eq_false_iff.2 hu)
      ((routineTrigger_iff _ _ _).2 (.inr (.inr (.inr ⟨rfl, by simpa using hlow⟩)))) hr')
    exact ⟨m1, m2, fun hge => absurd hlow (not_lt.2 hge)⟩

end

/-- Settles O16. -/
theorem trendExpiryJudgesTheSwarm : Obligations.TrendExpiryJudgesTheSwarm := by
  intro s x d hx ht hd
  let c : State := { s with fouling := { s.fouling with trendTimer := rearmed d (x.cfg.trendInterval * 60000) } }
  have hstep : exec .trendTimerExpiry s = .next (trendStep x c) :=
    congrArg _ (whenLive_due (T := fun s => s.fouling.trendTimer) hx ht hd _)
  let swarm : Bool := x.cfg.swarmCount ≤ risingCount x.cfg (laneDeltas x c)
  obtain ⟨u, hu⟩ : ∃ u : State, u = { c with fouling := { c.fouling with
    intensity := (laneDeltas x c).sum, swarm := swarm, lanes := retakenLanes x c } } := ⟨_, rfl⟩
  have hts : trendStep x c = if swarm = s.fouling.swarm then u else swarmChanged x u := by rw [hu]; rfl
  obtain ⟨uscreen, ulink, uclock⟩ : u.screen = s.screen ∧ u.link = s.link ∧ u.clock = s.clock := by rw [hu]; exact ⟨rfl, rfl, rfl⟩
  have uframe : u = { s with fouling := u.fouling } := by rw [hu]
  have hframe : trendStep x c = { u with screen := (trendStep x c).screen, link := (trendStep x c).link } := by
    rw [hts]
    split
    · rfl
    · rw [swarmChanged_still]
  have hfoul : (trendStep x c).fouling = u.fouling := by rw [hframe]
  have hswarm : (trendStep x c).fouling.swarm = swarm := by rw [hfoul, hu]
  obtain ⟨hdrive, hmoves, hmute, hstill⟩ := swarmMet_parts (x := x) (s := u)
  have hchanged (h : swarm ≠ s.fouling.swarm) : trendStep x c = swarmChanged x u := by rw [hts, if_neg h]
  have hsame (h : swarm = s.fouling.swarm) : trendStep x c = u := by rw [hts, if_pos h]
  have hcscreen : (swarmChanged x u).screen = (swarmMet x u).screen := by rw [swarmChanged_still]
  refine ⟨_, hstep, ⟨?_, ?_, fun b => ?_⟩, ?_, fun h => ?_, ?_, fun h => ⟨?_, fun hm => ?_⟩, fun h => ?_, fun h1 h2 hw hp hb hr => ?_, ?_⟩
  · rw [hfoul, hu]
    refine laneDeltas_sum.trans (Finset.sum_congr (Finset.filter_congr fun b _ => laneCounts_iff) fun b _ => rfl)
  · rw [hswarm, decide_eq_true_eq, risingCount_eq]
    exact iff_of_eq (congrArg _ (congrArg Finset.card (Finset.filter_congr fun b _ => and_congr_left' laneCounts_iff)))
  · rw [hfoul, hu]
    simp [retakenLanes, laneNow, c]
  · rw [hfoul, hu]
    rfl
  · rw [hsame (hswarm ▸ h)]
    exact ⟨uscreen, ulink⟩
  · by_cases h : swarm = s.fouling.swarm
    · rw [hsame h]
      exact driveMoves_congr (driveMoves_refl x s) rfl rfl (by rw [uscreen])
    · rw [hchanged h]
      exact driveMoves_congr hmoves uclock.symm (by rw [uscreen]) (by rw [hcscreen])
  · rw [hswarm] at h
    rw [hchanged h, hcscreen, hdrive, swarmChanged_eq]
    exact (driveChoice_congr (by simp) (by simp) (by simp) (by simp) (by simp) (by simp) (by simp)).symm
  · rw [hswarm] at h
    rw [hchanged h]
    exact (held_offer (hmute (by rwa [ulink]))).handedOver
  · rw [hswarm] at h
    by_cases hs : swarm = s.fouling.swarm
    · rw [hsame hs, uscreen]
    · rw [hchanged hs, hcscreen, hstill (by rw [hu]; exact h), uscreen]
  · rw [hswarm] at h1
    have hs : swarm ≠ s.fouling.swarm := by rw [h1, h2]; decide
    obtain ⟨m1, m2, m3⟩ := swarmMet_claims (x := x) (s := u) (by rw [hu]; exact h1) (by rw [uscreen, hw]) (by rw [uframe]; exact hp)
      (by rw [uframe]; exact hb) (by rw [uframe]; exact hr)
    rw [hchanged hs, hcscreen, m1, m2, uscreen]
    refine ⟨rfl, rfl, fun hge => m3 ?_⟩
    rwa [← hfoul, hchanged hs]
  · rw [hframe, uframe]

end Sys2Proof.Machine
end

section
/-! PROOF. The tide evaluation: the statements O18 and O19. -/

namespace Sys2Proof.Machine

set_option Elab.async false

section
variable {x : Ctx} {s t : State}

/-! ### The suspect judgement and the consensus -/

theorem peerReadings_eq : peerReadings x s = (List.finRange 12).filterMap fun b =>
    if b ≠ x.bay ∧ s.peers[b].presence = .present ∧ s.peers[b].report.outerSensor = .good ∧ s.peers[b].report.outerSuspect = false
    then some s.peers[b].report.outerLevel else none := by
  refine List.filterMap_congr fun b _ => ?_
  unfold presentPeer
  by_cases h1 : b ≠ x.bay ∧ s.peers[b].presence = .present
  · have hp : (if b ≠ x.bay && s.peers[b].presence = .present then some s.peers[b].report else none) = some s.peers[b].report :=
      if_pos (by simpa using h1)
    rw [hp]
    refine if_congr ?_ rfl rfl
    simp only [Bool.and_eq_true, decide_eq_true_eq, Bool.not_eq_true', h1, true_and, ne_eq, not_false_eq_true]
  · have hp : (if b ≠ x.bay && s.peers[b].presence = .present then some s.peers[b].report else none) = none :=
      if_neg (by simpa using h1)
    rw [hp, if_neg fun h => h1 ⟨h.1, h.2.1⟩]

theorem disagrees_iff {c : Settings} {own m : Int} : disagrees c own m = true ↔ c.suspectTolerance < (own - m).natAbs := by
  simp [disagrees]

/-- One comparison, by the runs it counts (R40, R41). -/
theorem judgedOwn_cases (c : Settings) (own m : Int) (t : Tide) :
    (c.suspectTolerance < (own - m).natAbs → t.disRun + 1 < c.suspectPersistence →
      (judgedOwn c m own t).suspect = t.suspect ∧ (judgedOwn c m own t).disRun = t.disRun + 1 ∧ (judgedOwn c m own t).agrRun = 0) ∧
    (c.suspectTolerance < (own - m).natAbs → c.suspectPersistence ≤ t.disRun + 1 →
      (judgedOwn c m own t).suspect = true ∧ (judgedOwn c m own t).agrRun = 0 ∧
      (t.suspect = false → (judgedOwn c m own t).disRun = 0)) ∧
    ((own - m).natAbs ≤ c.suspectTolerance → t.agrRun + 1 < c.suspectPersistence →
      (judgedOwn c m own t).suspect = t.suspect ∧ (judgedOwn c m own t).agrRun = t.agrRun + 1 ∧ (judgedOwn c m own t).disRun = 0) ∧
    ((own - m).natAbs ≤ c.suspectTolerance → c.suspectPersistence ≤ t.agrRun + 1 →
      (judgedOwn c m own t).suspect = false ∧ (judgedOwn c m own t).disRun = 0 ∧
      (t.suspect = true → (judgedOwn c m own t).agrRun = 0)) := by
  unfold judgedOwn
  refine ⟨fun hd hr => ?_, fun hd hr => ?_, fun hd hr => ?_, fun hd hr => ?_⟩
  · rw [if_pos (disagrees_iff.2 hd), if_pos hr]
    exact ⟨rfl, rfl, rfl⟩
  · rw [if_pos (disagrees_iff.2 hd), if_neg (not_lt.2 hr)]
    split
    next h => exact ⟨h, rfl, fun hn => by simp [h] at hn⟩
    next => exact ⟨rfl, rfl, fun _ => rfl⟩
  · rw [if_neg fun h => absurd (disagrees_iff.1 h) (not_lt.2 hd), if_pos hr]
    exact ⟨rfl, rfl, rfl⟩
  · rw [if_neg fun h => absurd (disagrees_iff.1 h) (not_lt.2 hd), if_neg (not_lt.2 hr)]
    split
    next => exact ⟨rfl, rfl, fun _ => rfl⟩
    next h => exact ⟨Bool.eq_false_iff.2 h, rfl, fun hn => absurd hn h⟩

theorem judgeSuspect_idle (h : s.front.outer.state ≠ .good ∨ (peerReadings x s).length < 2) : judgeSuspect x s = s := by
  unfold judgeSuspect
  dsimp only
  rw [if_neg]
  simp only [Bool.and_eq_true, decide_eq_true_eq, not_and_or, not_le]
  exact h

theorem judgeSuspect_judges {m : Int} (h : s.front.outer.state = .good) (hl : 2 ≤ (peerReadings x s).length)
    (hm : median (peerReadings x s) = some m) : (judgeSuspect x s).tide = judgedOwn x.cfg m s.front.outer.level s.tide := by
  unfold judgeSuspect
  dsimp only
  rw [if_pos (by simp [h, hl]), hm]

/-- What the judgement leaves of the tide monitor. -/
theorem judgeSuspect_tide : (judgeSuspect x s).tide = { s.tide with
    suspect := (judgeSuspect x s).tide.suspect, disRun := (judgeSuspect x s).tide.disRun, agrRun := (judgeSuspect x s).tide.agrRun } := by
  unfold judgeSuspect
  dsimp only
  split
  · split
    · unfold judgedOwn
      dsimp only
      split_ifs <;> rfl
    · rfl
  · rfl

/-- The evaluation before its conditions (R38 to R41). -/
def evaluated (x : Ctx) (s : State) : State := formConsensus x (judgeSuspect x s)

theorem peerReadings_congr (h : t.peers = s.peers) : peerReadings x t = peerReadings x s := by
  rw [peerReadings_eq, peerReadings_eq, h]

theorem evaluated_consensus :
    (∀ m, median (readings x (judgeSuspect x s)) = some m → (evaluated x s).tide.level = m ∧ (evaluated x s).tide.valid = true) ∧
    (readings x (judgeSuspect x s) = [] → (evaluated x s).tide.level = s.tide.level ∧ (evaluated x s).tide.valid = false) := by
  refine ⟨fun m hm => formConsensus_of_median hm, fun hn => ?_⟩
  have hm : median (readings x (judgeSuspect x s)) = none := by rw [hn]; rfl
  unfold evaluated formConsensus
  rw [hm]
  dsimp only
  rw [judgeSuspect_tide]
  exact ⟨rfl, rfl⟩

theorem evaluated_tide : (evaluated x s).tide = { s.tide with
    suspect := (judgeSuspect x s).tide.suspect, disRun := (judgeSuspect x s).tide.disRun, agrRun := (judgeSuspect x s).tide.agrRun,
    level := (evaluated x s).tide.level, valid := (evaluated x s).tide.valid, judged := true } := by
  have h := judgeSuspect_tide (x := x) (s := s)
  unfold evaluated formConsensus
  split <;> · dsimp only; rw [h]

/-! ### The conditions -/

/-- The tables of R43, R44 and R49 are those of the judged condition. -/
theorem judgedCondition_follows (np : Nat) (v : Bool) (r : Runs) (rises falls : Prop) [Decidable rises] [Decidable falls] :
    followsTable np rises falls v r (judgedCondition np v r (decide rises) (decide falls)).1
      (judgedCondition np v r (decide rises) (decide falls)).2 := by
  unfold followsTable judgedCondition
  refine ⟨fun hv hr hn => ?_, fun hv hr hn => ?_, fun hv hr => ?_, fun hv hr hn => ?_, fun hv hr hn => ?_, fun hv hr => ?_⟩
  · simp [hv, hr, not_le.2 hn]
  · simp [hv, hr, hn]
  · simp [hv, hr]
  · simp [hv, hr, not_le.2 hn]
  · simp [hv, hr, hn]
  · simp [hv, hr]

/-- The conditions and the monitor an evaluation judges (R43 to R49). -/
def verdict (x : Ctx) (s : State) : TideVerdict × Tide := judgeTide x.cfg (evaluated x s)

theorem verdict_kept : (verdict x s).2.timer = s.tide.timer ∧ (verdict x s).2.judged = true ∧
    (verdict x s).2.suspect = (judgeSuspect x s).tide.suspect ∧ (verdict x s).2.disRun = (judgeSuspect x s).tide.disRun ∧
    (verdict x s).2.agrRun = (judgeSuspect x s).tide.agrRun ∧ (verdict x s).2.level = (evaluated x s).tide.level ∧
    (verdict x s).2.valid = (evaluated x s).tide.valid ∧ (verdict x s).1.levelUnknown = !(evaluated x s).tide.valid := by
  unfold verdict judgeTide
  split
  next h =>
    simp only [judgeValid, ringWritten, h]
    rw [evaluated_tide]
    simp
  next h =>
    simp only [judgeInvalid, Bool.eq_false_iff.2 h]
    rw [evaluated_tide]
    simp

/-- An evaluation before its drive: the conditions handed on, OUTER SENSOR among them where SUSPECT has moved (R42, R46). -/
def conditioned (x : Ctx) (s : State) : State :=
  let u := handTideConditions x (verdict x s).1 { evaluated x s with tide := (verdict x s).2 }
  if (evaluated x s).tide.suspect = s.tide.suspect then u else formOuterSensor x u

/-- The drive after the conditions (R46). -/
def driven (x : Ctx) (s : State) : State :=
  let w := conditioned x s
  if w.conds.highHigh = s.conds.highHigh && w.conds.surge = s.conds.surge then w else selectDrive x w

theorem tideStep_eq : tideStep x s = if (evaluated x s).tide.suspect = s.tide.suspect then driven x s else offerStatus x (driven x s) := rfl

theorem conditioned_kept : conditioned x s = { s with
    tide := (verdict x s).2, conds := (conditioned x s).conds, alarms := (conditioned x s).alarms, link := (conditioned x s).link } := by
  unfold conditioned
  dsimp only
  split <;> apply State.eq_of_parts <;> simp [evaluated]

theorem conditioned_conds : (conditioned x s).conds = { s.conds with
    lowLow := (verdict x s).1.lowLow, low := (verdict x s).1.low, high := (verdict x s).1.high,
    highHigh := (verdict x s).1.highHigh, surge := (verdict x s).1.surge, levelUnknown := (verdict x s).1.levelUnknown,
    outerSensor := if (evaluated x s).tide.suspect = s.tide.suspect then s.conds.outerSensor
      else decide (s.front.outer.state ≠ .good) || (verdict x s).2.suspect } := by
  unfold conditioned
  dsimp only
  split
  next h => simp [handTideConditions, Conds.set, evaluated]
  next h => simp [formOuterSensor, handTideConditions, Conds.set, evaluated]

theorem conditioned_told : Told x false s (conditioned x s) := by
  have hu : Told x false s (handTideConditions x (verdict x s).1 { evaluated x s with tide := (verdict x s).2 }) :=
    .after (handTideConditions_told x _ _) (by simp [evaluated]) (by simp [evaluated]) (by simp [evaluated])
  unfold conditioned
  dsimp only
  exact .ite (fun _ => hu) fun _ => hu.trans (.cond .outerSensor _ _ (by decide))

theorem driven_kept : driven x s = { conditioned x s with screen := (driven x s).screen } := by
  unfold driven
  dsimp only
  split
  · rfl
  · apply State.eq_of_parts <;> simp

/-- The drive chosen afresh moves the drive, the window and the capture alone. -/
theorem selectDrive_screen : (selectDrive x s).screen = { s.screen with
    drive := driveChoice s, stallTimer := (selectDrive x s).screen.stallTimer, prescale := (selectDrive x s).screen.prescale,
    lastCapture := (selectDrive x s).screen.lastCapture, period := (selectDrive x s).screen.period } := by
  unfold selectDrive setDrive
  split_ifs with h1 h2
  · rw [h1]
  · rw [h2]
  · rfl
  · rfl

theorem tideStep_kept : (tideStep x s).tide = (verdict x s).2 ∧ (tideStep x s).conds = (conditioned x s).conds ∧
    (tideStep x s).screen = (driven x s).screen ∧
    tideStep x s = { s with
      tide := (tideStep x s).tide, screen := (tideStep x s).screen, conds := (tideStep x s).conds,
      alarms := (tideStep x s).alarms, link := (tideStep x s).link } := by
  have htide : (driven x s).tide = (verdict x s).2 := by rw [driven_kept, conditioned_kept]
  have hconds : (driven x s).conds = (conditioned x s).conds := by rw [driven_kept]
  rw [tideStep_eq]
  split
  · refine ⟨htide, hconds, rfl, ?_⟩
    rw [driven_kept, conditioned_kept]
  · refine ⟨by simp [htide], by simp [hconds], by simp, ?_⟩
    apply State.eq_of_parts <;> simp only [offerStatus_frame] <;> rw [driven_kept, conditioned_kept]

end

/-- Settles O18. -/
theorem tideEvaluationFormsTheConsensus : Obligations.TideEvaluationFormsTheConsensus := by
  intro s x d hx ht hd
  obtain ⟨c, hc⟩ : ∃ c : State, c = { s with tide := { s.tide with timer := rearmed d (x.cfg.tideInterval * 1000) } } := ⟨_, rfl⟩
  have hstep : exec .tideTimerExpiry s = .next (tideStep x c) := by
    rw [hc]
    exact congrArg _ (whenLive_due (T := fun s => s.tide.timer) hx ht hd _)
  obtain ⟨htide, hconds, hscreen, hframe⟩ := tideStep_kept (x := x) (s := c)
  obtain ⟨v1, v2, v3, v4, v5, v6, v7, v8⟩ := verdict_kept (x := x) (s := c)
  have hsuspect : (evaluated x c).tide.suspect = (judgeSuspect x c).tide.suspect := by rw [evaluated_tide]
  have hcs : c.tide.suspect = s.tide.suspect ∧ c.tide.disRun = s.tide.disRun ∧ c.tide.agrRun = s.tide.agrRun ∧
      c.tide.level = s.tide.level := by rw [hc]; exact ⟨rfl, rfl, rfl, rfl⟩
  have hco : c.front = s.front ∧ c.conds = s.conds ∧ c.screen = s.screen ∧ c.link = s.link ∧ c.clock = s.clock := by
    rw [hc]; exact ⟨rfl, rfl, rfl, rfl, rfl⟩
  obtain ⟨c1, c2, c3, c4⟩ := hcs
  obtain ⟨o1, o2, o3, o4, o5⟩ := hco
  have hreadings := (peerReadings_congr (x := x) (t := c) (s := s) (by rw [hc])).trans peerReadings_eq
  obtain ⟨k1, k2⟩ := evaluated_consensus (x := x) (s := c)
  have hrs : readings x (judgeSuspect x c) = if s.front.outer.state = .good ∧ (judgeSuspect x c).tide.suspect = false
      then s.front.outer.level :: peerReadings x c else peerReadings x c := by
    rw [readings, peerReadings_congr (x := x) (t := judgeSuspect x c) (s := c) (by simp)]
    exact if_congr (by simp [o1]) (by simp [o1]) rfl
  refine ⟨_, hstep, ?_, ?_, ⟨fun h => ?_, fun m h1 h2 h3 => ?_, fun m hm => ?_, fun hn => ?_⟩, ?_, fun h => ?_, fun h => ?_, ?_, ?_, ?_⟩
  · rw [htide, v1, hc]; rfl
  · rw [htide, v2]
  · rw [htide, v3, v4, v5, judgeSuspect_idle (by rwa [o1, hreadings])]
    exact ⟨c1, c2, c3⟩
  · have hj := judgedOwn_cases x.cfg s.front.outer.level m c.tide
    rw [htide, v3, v4, v5, judgeSuspect_judges (by rwa [o1]) (by rwa [hreadings]) (by rwa [hreadings]), o1, ← c1, ← c2, ← c3]
    exact hj
  · rw [htide, v3, ← hreadings, ← hrs] at hm
    rw [htide, v6, v7]
    exact k1 m hm
  · rw [htide, v3, ← hreadings, ← hrs] at hn
    rw [htide, v6, v7, ← c4]
    exact k2 hn
  · rw [hconds, htide, conditioned_conds, v7]
    exact v8
  · have hn : (evaluated x c).tide.suspect ≠ c.tide.suspect := by rwa [hsuspect, ← v3, ← htide, c1]
    refine ⟨?_, fun hm => ?_⟩
    · rw [hconds, htide, conditioned_conds, ← o1]
      exact if_neg hn
    · rw [tideStep_eq, if_neg hn]
      refine (held_offer (x := x) ?_).handedOver
      rw [driven_kept]
      exact conditioned_told.not_mute (by rwa [o4])
  · have hs : (evaluated x c).tide.suspect = c.tide.suspect := by rw [hsuspect, ← v3, ← htide, h, c1]
    rw [hconds, conditioned_conds, ← o2]
    exact if_pos hs
  · rw [hconds, conditioned_conds, ← o2]
  · rw [hconds, hscreen]
    have hcscreen : (conditioned x c).screen = s.screen := by rw [conditioned_kept, o3]
    have hcclock : (conditioned x c).clock = s.clock := by rw [conditioned_kept, o5]
    split
    next h =>
      have hd : driven x c = conditioned x c := if_pos (by simpa [o2] using h)
      rw [hd, hcscreen]
    next h =>
      have hd : driven x c = selectDrive x (conditioned x c) := if_neg (by simpa [o2] using h)
      have hm : driveMoves x s (selectDrive x (conditioned x c)) :=
        driveMoves_congr (selectDrive_moves x _) hcclock.symm (by rw [hcscreen]) rfl
      refine ⟨driveMoves_congr hm rfl rfl (by rw [hscreen, hd]), ?_⟩
      have hchoice : driveChoice (tideStep x c) = driveChoice (conditioned x c) := by
        have hwash : (tideStep x c).screen.wash = (conditioned x c).screen.wash := by rw [hscreen, hd]; simp
        rw [hframe] at hwash ⊢
        exact driveChoice_congr (by rw [conditioned_kept]) (congrArg Conds.bayConflict hconds) (congrArg Conds.screenStall hconds) hwash
          (by rw [conditioned_kept]) (congrArg Conds.highHigh hconds) (congrArg Conds.surge hconds)
      rw [hd, hchoice, ← hcscreen]
      exact selectDrive_screen
  · exact hframe.trans (by subst hc; rfl)

/-! ### The tables -/

section
variable {x : Ctx} {s : State}

theorem verdict_valid (h : (evaluated x s).tide.valid = true) : verdict x s = judgeValid x.cfg (evaluated x s) := if_pos h

theorem verdict_invalid (h : (evaluated x s).tide.valid = false) : verdict x s = judgeInvalid (evaluated x s) :=
  if_neg (by simp [h])

/-- SURGE is judged on the rise from the value of rate_window evaluations before, once the ring holds it (R48, R49). -/
theorem judgedSurge_cases (c : Settings) (t : Tide) (v : Bool) {r : Vector Int 16} {p : Fin 16} {y : Int}
    (hr : (ringWritten t).ring = r) (hp : t.pointer = p) (hy : t.level = y) :
    (c.rateWindow < (ringWritten t).fill →
      followsTable c.tidePersistence ((c.rateThreshold : Int) ≤ y - r[p - Fin.ofNat 16 c.rateWindow])
        (y - r[p - Fin.ofNat 16 c.rateWindow] < ((c.rateThreshold / 2 : Nat) : Int)) v t.surgeRun
        (judgedSurge c (ringWritten t) v).1 (judgedSurge c (ringWritten t) v).2) ∧
    ((ringWritten t).fill ≤ c.rateWindow → judgedSurge c (ringWritten t) v = (v, t.surgeRun)) := by
  subst hr hp hy
  have hback (j : Nat) : ringBack (ringWritten t) j = (ringWritten t).ring[t.pointer - Fin.ofNat 16 j] := by
    simp [ringBack, ringWritten]
  have hnew : ringBack (ringWritten t) 0 = t.level := by
    rw [hback]
    simp [ringWritten]
  refine ⟨fun hf => ?_, fun hf => ?_⟩
  · have hm : measuredRise c (ringWritten t) = some (t.level - (ringWritten t).ring[t.pointer - Fin.ofNat 16 c.rateWindow]) := by
      rw [measuredRise, if_pos hf, hnew, hback]
    simp only [judgedSurge, hm]
    exact judgedCondition_follows ..
  · have hm : measuredRise c (ringWritten t) = none := if_neg (not_lt.2 hf)
    simp only [judgedSurge, hm]
    rfl

end

/-- Settles O19. -/
theorem tideConditionsFollowTheConsensus : Obligations.TideConditionsFollowTheConsensus := by
  intro s t x d hx ht hd hexec np hy y
  obtain ⟨c, hc⟩ : ∃ c : State, c = { s with tide := { s.tide with timer := rearmed d (x.cfg.tideInterval * 1000) } } := ⟨_, rfl⟩
  have hstep : exec .tideTimerExpiry s = .next (tideStep x c) := by
    rw [hc]
    exact congrArg _ (whenLive_due (T := fun s => s.tide.timer) hx ht hd _)
  obtain rfl : t = tideStep x c := by
    rw [hstep] at hexec
    exact (Host.Outcome.next.inj hexec).symm
  obtain ⟨htide, hconds, -, -⟩ := tideStep_kept (x := x) (s := c)
  obtain ⟨-, -, -, -, -, hlevel, hvalid, -⟩ := verdict_kept (x := x) (s := c)
  have hec : (evaluated x c).conds = s.conds := by simp [evaluated, hc]
  have het : (evaluated x c).tide.lowRun = s.tide.lowRun ∧ (evaluated x c).tide.lowLowRun = s.tide.lowLowRun ∧
      (evaluated x c).tide.highRun = s.tide.highRun ∧ (evaluated x c).tide.highHighRun = s.tide.highHighRun ∧
      (evaluated x c).tide.surgeRun = s.tide.surgeRun ∧ (evaluated x c).tide.ring = s.tide.ring ∧
      (evaluated x c).tide.pointer = s.tide.pointer ∧ (evaluated x c).tide.fill = s.tide.fill := by
    rw [evaluated_tide, hc]
    exact ⟨rfl, rfl, rfl, rfl, rfl, rfl, rfl, rfl⟩
  obtain ⟨e1, e2, e3, e4, e5, e6, e7, e8⟩ := het
  have hyl : y = (evaluated x c).tide.level := by rw [← hlevel, ← htide]
  rw [htide, hvalid]
  refine ⟨fun hv => ?_, fun hv => ?_⟩
  · have hver := verdict_valid hv
    have hring : (ringWritten (evaluated x c).tide).ring = s.tide.ring.set s.tide.pointer y := by
      simp only [ringWritten, e6, e7, hyl]
    obtain ⟨s1, s2⟩ := judgedSurge_cases x.cfg (evaluated x c).tide s.conds.surge hring e7 hyl.symm
    rw [e5] at s1 s2
    rw [hconds, conditioned_conds, hver]
    simp only [judgeValid, hec, e1, e2, e3, e4, ← hyl]
    refine ⟨judgedCondition_follows .., judgedCondition_follows .., judgedCondition_follows .., judgedCondition_follows .., hring, ?_, ?_,
      ?_, ?_⟩
    · simp only [ringWritten, e7]
    · simp only [ringWritten, e8]
    · intro hf
      simp only [hring]
      exact s1 hf
    · intro hf
      rw [s2 hf]
      exact ⟨rfl, rfl⟩
  · have hver := verdict_invalid hv
    rw [hconds, conditioned_conds, hver]
    simp only [judgeInvalid, hec, e6, e7, and_self]

end Sys2Proof.Machine
end

section
/-! PROOF. The duty evaluation: the statement O28. -/

namespace Sys2Proof.Machine

set_option Elab.async false

/-! ### Lists -/

theorem foldl_min_spec {α : Type} (f : α → Nat) (l : List α) (m : Nat) :
    l.foldl (fun m v => min m (f v)) m ≤ m ∧ (∀ v ∈ l, l.foldl (fun m v => min m (f v)) m ≤ f v) ∧
      (l.foldl (fun m v => min m (f v)) m = m ∨ ∃ v ∈ l, f v = l.foldl (fun m v => min m (f v)) m) := by
  induction l generalizing m with
  | nil => simp
  | cons a l ih =>
    obtain ⟨hle, hall, heq⟩ := ih (min m (f a))
    refine ⟨hle.trans (min_le_left _ _), ?_, ?_⟩
    · intro v hv
      rcases List.mem_cons.1 hv with rfl | hv
      · exact hle.trans (min_le_right _ _)
      · exact hall v hv
    · rcases heq with h | ⟨v, hv, h⟩
      · rcases min_choice m (f a) with hm | hm
        · exact .inl (h.trans hm)
        · exact .inr ⟨a, List.mem_cons_self, (h.trans hm).symm⟩
      · exact .inr ⟨v, List.mem_cons_of_mem _ hv, h⟩

/-- An element put in at its own place stands in front, but for the order. -/
theorem filterMap_insert_perm {α β : Type} [DecidableEq α] (a : α) (o : β) {g : α → Option β} (hg : g a = none) {l : List α}
    (hl : l.Nodup) (ha : a ∈ l) : (l.filterMap fun b => if b = a then some o else g b).Perm (o :: l.filterMap g) := by
  have hrest (m : List α) (h : a ∉ m) : (m.filterMap fun b => if b = a then some o else g b) = m.filterMap g :=
    List.filterMap_congr fun b hb => if_neg fun (he : b = a) => h (he ▸ hb)
  obtain ⟨l1, l2, rfl⟩ := List.append_of_mem ha
  obtain ⟨-, hn2, hd⟩ := List.nodup_append.1 hl
  have h1 : a ∉ l1 := fun h => hd a h a List.mem_cons_self rfl
  simp only [List.filterMap_append, List.filterMap_cons, if_true, hg, hrest _ h1, hrest _ (List.nodup_cons.1 hn2).1]
  exact List.perm_middle

/-- What is picked by keys carries them in their order. -/
theorem filterMap_keys_sublist {α β : Type} {g : α → Option β} {key : β → α} (h : ∀ a v, g a = some v → key v = a) (l : List α) :
    ((l.filterMap g).map key).Sublist l := by
  induction l with
  | nil => simp
  | cons a l ih =>
    cases hg : g a with
    | none => simpa [hg] using ih.trans (List.sublist_cons_self a l)
    | some v => simpa [hg, h a v hg] using ih

theorem findIdx?_map_eq_some {α β : Type} [DecidableEq β] {key : α → β} {b : β} {l : List α} (hl : (l.map key).Nodup) (n : Nat) :
    l.findIdx? (fun v => key v = b) = some n ↔ (l.map key)[n]? = some b := by
  rw [List.findIdx?_eq_some_iff_getElem, List.getElem?_eq_some_iff]
  constructor
  · rintro ⟨hn, hb, -⟩
    exact ⟨by simpa using hn, by simpa using hb⟩
  · rintro ⟨hn, hb⟩
    refine ⟨by simpa using hn, by simpa using hb, fun j hj => ?_⟩
    have hne : j ≠ n := hj.ne
    have hjl : j < (l.map key).length := hj.trans hn
    have := mt (hl.getElem_inj_iff (hi := hjl) (hj := hn)).1 hne
    rw [hb] at this
    simpa using this

/-! ### The bays in order -/

theorem tieOrder_inj {r : Nat} {a b : Bay} (h : tieOrder r a = tieOrder r b) : a = b := by
  have ha := a.isLt
  have hb := b.isLt
  unfold tieOrder at h
  exact Fin.ext (by omega)

theorem tieOrder_lt (r : Nat) (b : Bay) : tieOrder r b < 12 := Nat.mod_lt _ (by decide)

theorem tieOrder_eq (b : Bay) {r : Nat} (hr : r ≤ 11) : (tieOrder r b : Int) = ((bayNumber b : Int) - 1 - r) % 12 := by
  unfold tieOrder bayNumber
  omega

/-- A sorting by a key is strict where the keys differ. -/
theorem sorted_pairwise {l : List BayView} (key : BayView → Nat) (hl : (l.map BayView.bay).Nodup) {p : BayView → BayView → Prop}
    (h : ∀ a b : BayView, a.bay ≠ b.bay → key a ≤ key b → p a b) : (l.insertionSort fun a b => key a ≤ key b).Pairwise p := by
  have htotal : Std.Total (fun a b : BayView => key a ≤ key b) := ⟨fun a b => Nat.le_total _ _⟩
  have htrans : IsTrans BayView (fun a b => key a ≤ key b) := ⟨fun a b c => Nat.le_trans⟩
  have hs := List.pairwise_insertionSort (fun a b : BayView => key a ≤ key b) l
  have hd := List.pairwise_map.1 (((List.perm_insertionSort (fun a b => key a ≤ key b) l).map BayView.bay).nodup_iff.2 hl)
  exact (hd.and hs).imp fun ⟨h1, h2⟩ => h _ _ h1 h2

section
variable {x : Ctx} {s t : State}

theorem presentPeer_iff {b : Bay} {r : Report} : presentPeer x s b = some r ↔
    b ≠ x.bay ∧ s.peers[b].presence = .present ∧ r = s.peers[b].report := by
  have h : (decide (b ≠ x.bay) && decide (s.peers[b].presence = .present)) = true ↔ b ≠ x.bay ∧ s.peers[b].presence = .present := by
    rw [Bool.and_eq_true, decide_eq_true_iff, decide_eq_true_iff]
  unfold presentPeer
  rw [Option.ite_none_right_eq_some, h, Option.some_inj, and_assoc, eq_comm (b := r)]

theorem countedViews_perm : (countedViews x s).Perm (ownView x (evaluatedScore x s) s :: peerViews x s) :=
  filterMap_insert_perm x.bay _ (by simp [presentPeer]) (List.nodup_finRange 12) (List.mem_finRange _)

theorem countedViews_nodup : ((countedViews x s).map BayView.bay).Nodup := by
  refine (filterMap_keys_sublist (fun b v h => ?_) _).nodup (List.nodup_finRange 12)
  split at h
  next he => exact Option.some.inj h ▸ he.symm
  next =>
    obtain ⟨r, -, rfl⟩ := Option.map_eq_some_iff.1 h
    rfl

theorem filtered_nodup {l : List BayView} (h : (l.map BayView.bay).Nodup) (p : BayView → Bool) :
    ((l.filter p).map BayView.bay).Nodup := ((List.filter_sublist).map _).nodup h

/-- No bay stands both among the candidates and behind them. -/
theorem rankingOf_nodup {r : Nat} {l : List BayView} (h : (l.map BayView.bay).Nodup) : ((rankingOf r l).map BayView.bay).Nodup := by
  have hperm : (rankingOf r l).Perm (l.filter isCandidate ++ l.filter isRunningNonCandidate) :=
    (List.perm_insertionSort _ _).append (List.perm_insertionSort _ _)
  have hrest : (l.filter isRunningNonCandidate).Sublist (l.filter fun v => !isCandidate v) :=
    List.monotone_filter_right l fun v hv => by
      simp only [isRunningNonCandidate, Bool.and_eq_true] at hv
      exact hv.1.2
  refine (hperm.map _).nodup_iff.2 (((List.Sublist.append (List.Sublist.refl _) hrest).map _).nodup ?_)
  exact ((List.filter_append_perm isCandidate l).map _).nodup_iff.2 h

theorem rankIn_eq_some {b : Bay} {l : List BayView} (hl : (l.map BayView.bay).Nodup) {n : Nat} :
    rankIn b l = some n ↔ 1 ≤ n ∧ (l.map BayView.bay)[n - 1]? = some b := by
  simp only [rankIn, Option.map_eq_some_iff, findIdx?_map_eq_some hl]
  constructor
  · rintro ⟨k, hk, rfl⟩
    exact ⟨Nat.le_add_left 1 k, hk⟩
  · exact fun ⟨hn, hk⟩ => ⟨n - 1, hk, Nat.sub_add_cancel hn⟩

/-! ### The score -/

theorem leastHours_spec (own : BayView) (peers : List BayView) : leastHours own peers ≤ own.hours ∧
    (∀ v ∈ peers, isCandidate v = true → leastHours own peers ≤ v.hours) ∧
    (leastHours own peers = own.hours ∨ ∃ v ∈ peers, isCandidate v = true ∧ v.hours = leastHours own peers) := by
  obtain ⟨hle, hall, heq⟩ := foldl_min_spec BayView.hours (peers.filter isCandidate) own.hours
  refine ⟨hle, fun v hv hc => hall v (List.mem_filter.2 ⟨hv, hc⟩), heq.imp_right ?_⟩
  rintro ⟨v, hv, h⟩
  exact ⟨v, (List.mem_filter.1 hv).1, (List.mem_filter.1 hv).2, h⟩

theorem evaluatedScore_none (h : isCandidate (ownView x 0 s) = false) : evaluatedScore x s = 1023 := by
  simp [evaluatedScore, h]

theorem evaluatedScore_candidate (h : isCandidate (ownView x 0 s) = true) : evaluatedScore x s =
    min (runHours s - leastHours (ownView x 0 s) (peerViews x s)) 255
      + s.fouling.index * (if s.fouling.swarm then 2 * x.cfg.foulingWeight else x.cfg.foulingWeight) / 4
      + (x.cfg.marginRef - min (s.front.inner.level - x.cfg.pumpStopLevel).toNat x.cfg.marginRef) / 16
      - (if s.pump.state = .running then x.cfg.runAllowance else 0) := by
  rw [evaluatedScore, if_pos h, candidateScore]
  split <;> rfl

/-! ### The flags and the counts -/

theorem eligible_iff : eligible s = true ↔ s.pump.state ≠ .locked ∧ s.pump.state ≠ .tripped ∧ s.pump.state ≠ .failed ∧
    s.front.inner.state = .good ∧ s.conds.screenBlocked = false ∧ s.loader.phase = .operating ∧ s.conds.bayConflict = false := by
  simp [eligible, and_assoc]

theorem startable_iff {c : Settings} : startable c s = true ↔ eligible s = true ∧ s.pump.state = .stopped ∧
    startsInLastHour s < c.startLimit ∧ s.pump.minStopTimer = none ∧ s.conds.suctionLow = false := by
  simp [startable, and_assoc]

theorem startsInLastHour_eq : startsInLastHour s = (Finset.univ.filter fun i : Fin 6 => s.pump.ring[i] ≠ none).card := by
  have hl : s.pump.ring.toList = (List.finRange 6).map fun i => s.pump.ring[i] :=
    List.ext_getElem (by simp) fun i h1 h2 => by simp
  rw [startsInLastHour, hl, List.countP_map, List.countP_eq_length_filter, Fin.univ_def]
  simp only [Finset.card, Finset.filter, Multiset.filter_coe, Multiset.coe_card, Function.comp_def]
  congr 1
  exact List.filter_congr fun i _ => by cases s.pump.ring[i] <;> rfl

end

/-- Settles O28. -/
theorem dutyEvaluationRanksTheBays : Obligations.DutyEvaluationRanksTheBays := by
  unfold Obligations.DutyEvaluationRanksTheBays
  intro s x d hx ht hd
  obtain ⟨c, hc⟩ : ∃ c : State, c = { s with duty := { s.duty with timer := rearmed d (x.cfg.dutyInterval * 1000) } } := ⟨_, rfl⟩
  obtain ⟨t, hstep⟩ : ∃ t, t = dutyStep x c := ⟨_, rfl⟩
  have hexec : exec .dutyTimerExpiry s = .next t := by
    rw [hstep, hc]
    exact congrArg Host.Outcome.next (whenLive_due (T := fun s => s.duty.timer) hx ht hd _)
  have hduty : t.duty = evaluate x c := by
    rw [hstep]
    simp [dutyStep]
  have hscore : t.duty.score = evaluatedScore x s := by rw [hduty, hc]; rfl
  obtain ⟨views, hviews⟩ : ∃ v, v = countedViews x s := ⟨_, rfl⟩
  have hperm : views.Perm (ownView x t.duty.score s :: peerViews x s) := by rw [hviews, hscore]; exact countedViews_perm
  have hnodup : (views.map BayView.bay).Nodup := by rw [hviews]; exact countedViews_nodup
  refine ⟨eligible_iff, startable_iff, startsInLastHour_eq, by simp [countedRunning, countsRunning, or_assoc], rfl, rfl, rfl,
    by simp [tideCap], fun b r hr => tieOrder_eq b hr, fun b r => presentPeer_iff, fun n => rfl, ?_, fun v => ⟨?_, ?_, ?_⟩,
    t, hexec, ?_, ⟨?_, ?_⟩, ?_, ?_⟩
  · refine List.filterMap_congr fun b _ => ?_
    by_cases h : b ≠ x.bay ∧ s.peers[b].presence = .present
    · rw [presentPeer_iff.2 ⟨h.1, h.2, rfl⟩, if_pos h]
      simp [peerView, countsRunning]
    · rw [if_neg h, Option.map_eq_none_iff, Option.eq_none_iff_forall_ne_some]
      exact fun r hr => h ⟨(presentPeer_iff.1 hr).1, (presentPeer_iff.1 hr).2.1⟩
  · simp [isCandidate]
  · simp [isUncommanded]
  · simp [isRunningNonCandidate, and_assoc]
  · rw [hduty, hc]; rfl
  · exact fun h => hscore.trans (evaluatedScore_none h)
  · intro h
    obtain ⟨hle, hall, hleast⟩ := leastHours_spec (ownView x 0 s) (peerViews x s)
    exact ⟨_, hle, hall, hleast, hscore.trans (evaluatedScore_candidate h)⟩
  · intro views' candidates others tie
    have hcand : (views.filter isCandidate).Perm candidates := hperm.filter _
    have hothers : (views.filter isRunningNonCandidate).Perm others := hperm.filter _
    have hranking : t.duty.ranking = (rankingOf (rotationInForce s) views).map BayView.bay := by rw [hduty, hc, hviews]; rfl
    have hruns : others.countP BayView.running = others.length := List.countP_eq_length.2 fun v hv => by
      have := (List.mem_filter.1 hv).2
      simp only [isRunningNonCandidate, Bool.and_eq_true] at this
      exact this.1.1
    have hl : (rankedCandidates (rotationInForce s) views).Perm candidates := (List.perm_insertionSort _ _).trans hcand
    have hm : (rankedOthers (rotationInForce s) views).Perm others := (List.perm_insertionSort _ _).trans hothers
    refine ⟨?_, ?_, ?_, ?_, ⟨_, _, hl, hm, hranking, ?_, ?_⟩, fun n => ?_⟩
    · have hn : t.duty.nTarget = targetCount (demandInForce x.cfg s) (tideCap x.cfg s) (views.countP isUncommanded)
          (views.filter isCandidate).length := by rw [hduty, hc, hviews]; rfl
      rw [hn, targetCount, hperm.countP_eq, hcand.length_eq, List.countP_eq_length_filter]
    · have hn : t.duty.running = (views.filter isCandidate).countP BayView.running := by rw [hduty, hc, hviews]; rfl
      rw [hn, hcand.countP_eq, List.countP_eq_length_filter]
    · have hn : t.duty.stopCount = (rankingOf (rotationInForce s) views).countP BayView.running := by rw [hduty, hc, hviews]; rfl
      rw [hn, rankingOf, List.countP_append, hl.countP_eq, hm.countP_eq, hruns, List.countP_eq_length_filter]
    · have hn : t.duty.candidates = (views.filter isCandidate).map BayView.bay := by rw [hduty, hc, hviews]; rfl
      rw [hn]
      exact hcand.map _
    · refine sorted_pairwise _ (filtered_nodup hnodup _) fun a b hne hab => ?_
      have ha := tieOrder_lt (rotationInForce s) a.bay
      have hb := tieOrder_lt (rotationInForce s) b.bay
      have ht : tie a ≠ tie b := mt tieOrder_inj hne
      simp only [tie, rankKey] at hab ht ⊢
      omega
    · exact sorted_pairwise _ (filtered_nodup hnodup _) fun a b hne hab => lt_of_le_of_ne hab (mt tieOrder_inj hne)
    · have hn : t.duty.ownRank = rankIn x.bay (rankingOf (rotationInForce s) views) := by rw [hduty, hc, hviews]; rfl
      rw [hn, hranking, rankIn_eq_some (rankingOf_nodup hnodup)]
  · rw [hstep, hc]
    apply State.eq_of_parts <;> simp

end Sys2Proof.Machine
end

section
/-! PROOF. The wishes of a duty evaluation: the statement O29. -/

namespace Sys2Proof.Machine

set_option Elab.async false

section
variable {x : Ctx} {s t : State}

theorem runsInView_iff {b : Bay} : runsInView x s b = true ↔
    (b = x.bay ∧ (s.pump.state = .starting ∨ s.pump.state = .running ∨ s.lines.run = true)) ∨
    (b ≠ x.bay ∧ s.peers[b].presence = .present ∧ (s.peers[b].report.pumpState = .starting ∨
      s.peers[b].report.pumpState = .running ∨ s.peers[b].report.runFeedback = true)) := by
  unfold runsInView
  by_cases hb : b = x.bay
  · simp [hb, countedRunning, countsRunning, or_assoc]
  by_cases hp : s.peers[b].presence = .present
  · rw [if_neg hb, presentPeer_iff.2 ⟨hb, hp, rfl⟩]
    simpa [hb, countsRunning, or_assoc] using fun _ => by simpa using hp
  · have hn : presentPeer x s b = none := Option.eq_none_iff_forall_ne_some.2 fun r hr => hp (presentPeer_iff.1 hr).2.1
    rw [if_neg hb, hn]
    simpa [hb] using fun h => absurd h (by simpa using hp)

/-! ### The better starter -/

/-- One step of the comparison at entry, with the peers as they stood (R130). -/
def comparedWith (x : Ctx) (peer : Bay → Option Report) (t : State) (b : Bay) : State :=
  match peer b with
  | some r => comparePeer x b r t
  | none => t

theorem comparePeers_eq : comparePeers x s = (List.finRange 12).foldl (comparedWith x (presentPeer x s)) s := rfl

theorem compared_idle {peer : Bay → Option Report} {l : List Bay} (h : ∀ b ∈ l, ∀ r, peer b = some r →
    s.pump.state ≠ .startPending ∨ r.pumpState ≠ .starting ∧ ¬(r.pumpState = .startPending ∧ outranks x s b r)) :
    l.foldl (comparedWith x peer) s = s := by
  induction l with
  | nil => rfl
  | cons b l ih =>
    have hb : comparedWith x peer s b = s := by
      unfold comparedWith
      split
      next r hr => exact comparePeer_idle (h b List.mem_cons_self r hr)
      next => rfl
    rw [List.foldl_cons, hb, ih fun c hc => h c (List.mem_cons_of_mem _ hc)]

/-- The first better starter withdraws the start, and the others then meet none. -/
theorem compared_better {peer : Bay → Option Report} {l : List Bay} (hp : s.pump.state = .startPending)
    (hn : ∀ b ∈ l, ∀ r, peer b = some r → r.pumpState ≠ .starting)
    (h : ∃ b ∈ l, ∃ r, peer b = some r ∧ r.pumpState = .startPending ∧ outranks x s b r) :
    (l.foldl (comparedWith x peer) s).pump = { s.pump with state := .stopped, guardTimer := none, cause := .betterStarter } := by
  induction l with
  | nil => simp at h
  | cons b l ih =>
    rw [List.foldl_cons]
    by_cases hb : ∃ r, peer b = some r ∧ r.pumpState = .startPending ∧ outranks x s b r
    · obtain ⟨r, hr, h1, h2⟩ := hb
      have hw : comparedWith x peer s b = withdrawStart x .betterStarter s := by
        simp only [comparedWith, hr, comparePeer_better hp h1 h2]
      obtain ⟨hpump, -, -⟩ := withdrawStart_pump (x := x) (c := .betterStarter) hp
      rw [hw, compared_idle fun c _ r' _ => .inl (by simp [hpump]), hpump]
    · have hs : comparedWith x peer s b = s := by
        unfold comparedWith
        split
        next r hr => exact comparePeer_idle (.inr ⟨hn b List.mem_cons_self r hr, fun h => hb ⟨r, hr, h⟩⟩)
        next => rfl
      rw [hs]
      refine ih (fun c hc => hn c (List.mem_cons_of_mem _ hc)) ?_
      obtain ⟨c, hc, h⟩ := h
      exact ⟨c, (List.mem_cons.1 hc).resolve_left fun he => hb (he ▸ h), h⟩

/-! ### The hand-overs -/

/-- A start wish taken, before the comparison with the peers. -/
def pendingStart (x : Ctx) (s : State) : State :=
  setPump x .startPending { s with pump := { s.pump with guardTimer := ahead s (x.cfg.startGuard * 1000) } }

theorem pendingStart_pump (hp : s.pump.state = .stopped) : (pendingStart x s).pump =
    { s.pump with state := .startPending, guardTimer := ahead s (x.cfg.startGuard * 1000) } := by
  have hc : countsRunning .startPending s.lines.run = countedRunning s := by simp [countedRunning, countsRunning, hp]
  exact (setPump_counted_same (x := x) (s := { s with pump := { s.pump with guardTimer := ahead s (x.cfg.startGuard * 1000) } }) hc).1

theorem pendingStart_held (hp : s.pump.state = .stopped) (hm : s.link.tx ≠ .mute) : Held .status (pendingStart x s) :=
  setPump_held (by simp [hp]) hm

theorem refusal_passes {α : Type} {c : Prop} [Decidable c] {a : α} {r : Option α} :
    (if c then some a else r) = none ↔ ¬c ∧ r = none := by
  split <;> simp [*]

theorem startRefusal_none (h : startRefusal x s = none) : eligible s = true ∧ startsInLastHour s < x.cfg.startLimit ∧
    s.pump.minStopTimer = none ∧ s.conds.suctionLow = false ∧ startNeeded x s = true ∧ peerStarting x s = false := by
  obtain ⟨-, h1, h2, h3, h4, h5, h6, -⟩ : _ ∧ _ ∧ _ ∧ _ ∧ _ ∧ _ ∧ _ ∧ _ := by simpa only [startRefusal, refusal_passes] using h
  exact ⟨by simpa using h1, by simpa using h2, by simpa using h3, by simpa using h4, by simpa using h5, by simpa using h6⟩

theorem startNeeded_iff : startNeeded x s = true ↔ ∃ n, s.duty.ownRank = some n ∧ n ≤ s.duty.nTarget ∧
    (s.duty.running < s.duty.nTarget ∨ ∃ b ∈ s.duty.ranking.drop s.duty.nTarget, runsInView x s b = true) := by
  unfold startNeeded
  cases s.duty.ownRank <;> simp

theorem stopWished_iff : stopWished x s = true ↔ (s.loader.phase = .operating ∧ s.ladder.stage = .linked) ∧
    s.pump.minRunTimer = none ∧ s.duty.nTarget < s.duty.stopCount ∧
    (s.duty.ranking.filter (runsInView x s)).getLast? = some x.bay := by
  simp [stopWished, and_assoc]

theorem handWish_refused {c : Cause} (hp : s.pump.state = .stopped) (h : startRefusal x s = some c) :
    (handWish x s).pump = { s.pump with cause := c } := by
  simp [handWish, hp, h]

theorem handWish_taken (hp : s.pump.state = .stopped) (h : startRefusal x s = none) :
    handWish x s = comparePeers x (pendingStart x s) := by
  obtain ⟨h1, h2, h3, h4, -, -⟩ := startRefusal_none h
  have hs : startable x.cfg s = true := startable_iff.2 ⟨h1, hp, h2, h3, h4⟩
  have ht : takeStartWish x s = comparePeers x (pendingStart x s) := if_pos (by simp [hp, hs])
  rw [← ht]
  unfold handWish
  simp only [hp, h]

theorem handWish_stops (hp : s.pump.state = .running) (h : stopWished x s = true) (hc : s.conds.bayConflict = false) :
    handWish x s = enterStopping x s := by
  simp [handWish, hp, h, takeStopWish, hc]

theorem handWish_runs (hp : s.pump.state = .running) (h : ¬(stopWished x s = true ∧ s.conds.bayConflict = false)) :
    handWish x s = s := by
  have hs : handWish x s = if stopWished x s then takeStopWish x s else s := by simp [handWish, hp]
  rw [hs, takeStopWish]
  split
  next hw => exact if_neg fun hc => h ⟨hw, by simpa [hp] using hc⟩
  next => rfl

theorem handWish_keeps (h1 : s.pump.state ≠ .stopped) (h2 : s.pump.state ≠ .running) : handWish x s = s := by
  cases hp : s.pump.state <;> simp_all [handWish]

end

/-- Settles O29. -/
theorem dutyEvaluationHandsOneWish : Obligations.DutyEvaluationHandsOneWish := by
  unfold Obligations.DutyEvaluationHandsOneWish
  intro s t x d hx ht hd hexec
  obtain ⟨c, hc⟩ : ∃ c : State, c = { s with duty := { s.duty with timer := rearmed d (x.cfg.dutyInterval * 1000) } } := ⟨_, rfl⟩
  obtain ⟨e, he⟩ : ∃ e : State, e = { s with duty := evaluate x c } := ⟨_, rfl⟩
  have hstep : t = handWish x e := by
    rw [he, hc]
    exact Host.Outcome.next.inj (hexec.symm.trans (congrArg Host.Outcome.next (whenLive_due (T := fun s => s.duty.timer) hx ht hd _)))
  have hduty : t.duty = e.duty := by rw [hstep]; simp
  have hpump : e.pump = s.pump := by rw [he]
  have heligible : eligible e = eligible s := by rw [he]; rfl
  have hstarts : startsInLastHour e = startsInLastHour s := by rw [he]; rfl
  have hpeer : presentPeer x e = presentPeer x s := by rw [he]; rfl
  have hstarting : peerStarting x e = peerStarting x s := by rw [he]; rfl
  have hruns : runsInView x e = runsInView x s := by rw [he]; rfl
  have hphase : e.loader.phase = s.loader.phase := by rw [he]
  have hstage : e.ladder.stage = s.ladder.stage := by rw [he]
  have hsuction : e.conds.suctionLow = s.conds.suctionLow := by rw [he]
  have hconflict : e.conds.bayConflict = s.conds.bayConflict := by rw [he]
  have hclock : e.clock = s.clock := by rw [he]
  have htx : e.link.tx = s.link.tx := by rw [he]
  refine ⟨fun b => runsInView_iff, ?_, ?_⟩
  · rw [peerStarting_iff]
    simp only [presentPeer_iff]
    exact exists_congr fun b => ⟨fun ⟨r, ⟨h1, h2, hr⟩, h3⟩ => ⟨h1, h2, hr ▸ h3⟩, fun ⟨h1, h2, h3⟩ => ⟨_, ⟨h1, h2, rfl⟩, h3⟩⟩
  intro linked beyond needed better refused
  have hneeded : startNeeded x e = true ↔ needed := by rw [startNeeded_iff, hruns, ← hduty]
  refine ⟨fun hp => ?_, ?_, fun h1 h2 => ?_⟩
  · have hpe : e.pump.state = .stopped := by rw [hpump, hp]
    have hrefused (c : Cause) (h : startRefusal x e = some c) : refused c := by
      change t.pump = _
      rw [hstep, handWish_refused hpe h, hpump]
    have hlink (h : linked) : e.loader.phase = .operating ∧ e.ladder.stage = .linked := by rwa [hphase, hstage]
    have hnone (hl : linked) (hel : eligible s = true) (hlim : startsInLastHour s < x.cfg.startLimit)
        (hmin : s.pump.minStopTimer = none) (hsuc : s.conds.suctionLow = false) (hn : needed) (hst : peerStarting x s = false) :
        startRefusal x e = none := by
      simp [startRefusal, hlink hl, heligible, hel, hstarts, hlim, hpump, hmin, hsuction, hsuc, hneeded.2 hn, hstarting, hst]
    obtain ⟨u, hu⟩ : ∃ u, u = pendingStart x e := ⟨_, rfl⟩
    have hupump : u.pump = { s.pump with state := .startPending, guardTimer := some (s.clock + ms (x.cfg.startGuard * 1000)) } := by
      rw [hu, pendingStart_pump hpe, hpump, ahead, hclock]
    have hupeer : presentPeer x u = presentPeer x s := by
      have h : u.peers = s.peers := by rw [hu, he]; simp [pendingStart]
      funext b
      simp only [presentPeer, h]
    have hrank (b : Bay) (r : Report) : outranks x u b r ↔ r.score < t.duty.score ∨
        (r.score = t.duty.score ∧ tieOrder (rotationInForce s) b < tieOrder (rotationInForce s) x.bay) := by
      have h1 : u.duty = t.duty := by rw [hduty, hu]; simp [pendingStart]
      have h2 : u.order = s.order := by rw [hu, he]; simp [pendingStart]
      simp only [outranks, rotationInForce, h1, h2]
    have hidle (hst : peerStarting x s = false) (b : Bay) (r : Report) (hr : presentPeer x u b = some r) : r.pumpState ≠ .starting :=
      fun h => by simp [(peerStarting_iff x s).2 ⟨b, r, hupeer ▸ hr, h⟩] at hst
    have hcompared (h : startRefusal x e = none) : t = (List.finRange 12).foldl (comparedWith x (presentPeer x u)) u := by
      rw [hstep, handWish_taken hpe h, ← hu, comparePeers_eq]
    refine ⟨fun hn => hrefused _ ?_, fun hl hel => hrefused _ ?_, fun hl hel => ⟨fun hn => hrefused _ ?_, fun hlim =>
      ⟨fun hn => hrefused _ ?_, fun hmin => ⟨fun hn => hrefused _ ?_, fun hsuc => ⟨fun hn => hrefused _ ?_,
        fun hn hst => hrefused _ ?_, fun hn hst hb => ?_, fun hn hst hb => ?_⟩⟩⟩⟩⟩
    · have hn : ¬(e.loader.phase = .operating ∧ e.ladder.stage = .linked) := by rwa [hphase, hstage]
      simp [startRefusal, hn]
    · simp [startRefusal, hlink hl, heligible, hel]
    · simp [startRefusal, hlink hl, heligible, hel, hstarts, hn]
    · simp [startRefusal, hlink hl, heligible, hel, hstarts, hlim, hpump, hn]
    · simp [startRefusal, hlink hl, heligible, hel, hstarts, hlim, hpump, hmin, hsuction, hn]
    · simp [startRefusal, hlink hl, heligible, hel, hstarts, hlim, hpump, hmin, hsuction, hsuc, mt hneeded.1 hn]
    · simp [startRefusal, hlink hl, heligible, hel, hstarts, hlim, hpump, hmin, hsuction, hsuc, hneeded.2 hn, hstarting, hst]
    · have hstill : t = u := by
        rw [hcompared (hnone hl hel hlim hmin hsuc hn hst)]
        refine compared_idle fun b _ r hr => .inr ⟨hidle hst b r hr, fun h => hb ⟨b, r, hupeer ▸ hr, h.1, (hrank b r).1 h.2⟩⟩
      rw [hstill, hupump]
      exact ⟨rfl, rfl, rfl, fun hm => hu ▸ (pendingStart_held hpe (by rwa [htx])).handedOver⟩
    · obtain ⟨b, r, hr, h1, h2⟩ := hb
      have hwithdrawn := compared_better (x := x) (s := u) (peer := presentPeer x u) (l := List.finRange 12) (by rw [hupump])
        (fun b _ r hr => hidle hst b r hr) ⟨b, List.mem_finRange b, r, by rw [hupeer, hr], h1, (hrank b r).2 h2⟩
      rw [hcompared (hnone hl hel hlim hmin hsuc hn hst), hwithdrawn, hupump]
      exact ⟨rfl, rfl, rfl, hmin⟩
  · intro wished hp
    have hpe : e.pump.state = .running := by rw [hpump, hp]
    have hwished : stopWished x e = true ∧ e.conds.bayConflict = false ↔ wished := by
      simp only [wished, linked, stopWished_iff, hphase, hstage, hpump, hduty, hruns, hconflict, and_assoc]
    refine ⟨fun hw => ?_, fun hn => ?_⟩
    · obtain ⟨h1, h2⟩ := hwished.2 hw
      rw [hstep, handWish_stops hpe h1 h2]
      refine ⟨(enterStopping_state x e).1, (enterStopping_state x e).2, ?_, ?_⟩
      · simp [enterStopping, issuePulse, ahead, hclock]
      · simp [enterStopping, issuePulse, ahead, hclock]
    · rw [hstep, handWish_runs hpe (mt hwished.1 hn), hpump]
  · rw [hstep, handWish_keeps (by rwa [hpump]) (by rwa [hpump]), he]
    exact ⟨rfl, rfl, rfl⟩

end Sys2Proof.Machine
end

section
/-! PROOF. The byte layouts: the statement O49. -/

namespace Sys2Proof.Machine

set_option Elab.async false

/-! ### Bytes and words -/

@[simp] theorem byte_toNat (n : Nat) : (byte n).toNat = n % 256 := BitVec.toNat_ofNat n 8

theorem wordAt_of_bytes16 {p : List Byte} {n v : Nat} (h0 : byteAt p n = v / 256 % 256) (h1 : byteAt p (n + 1) = v % 256)
    (hv : v < 65536) : wordAt p n = v := by
  rw [wordAt, h0, h1]
  omega

theorem intAt_of_bytes16 {p : List Byte} {n : Nat} {i : Int} (h0 : byteAt p n = (BitVec.ofInt 16 i).toNat / 256 % 256)
    (h1 : byteAt p (n + 1) = (BitVec.ofInt 16 i).toNat % 256) (hlo : -10000 ≤ i) (hhi : i ≤ 30000) : intAt p n = i := by
  rw [intAt, wordAt_of_bytes16 h0 h1 (BitVec.ofInt 16 i).isLt, BitVec.ofNat_toNat, BitVec.setWidth_eq, BitVec.toInt_ofInt]
  exact Int.bmod_eq_of_le (by omega) (by omega)

/-! ### Codes by their places -/

theorem Stage.ofCode_eq (n : Nat) : Stage.ofCode n = [Stage.linked, .quiet, .isolated][n]? :=
  match n with | 0 | 1 | 2 | _ + 3 => rfl

theorem Sensor.ofCode_eq (n : Nat) : Sensor.ofCode n = [Sensor.good, .under, .over][n]? :=
  match n with | 0 | 1 | 2 | _ + 3 => rfl

theorem PumpState.ofCode_eq (n : Nat) : PumpState.ofCode n =
    [PumpState.stopped, .startPending, .starting, .running, .stopping, .tripped, .failed, .locked][n]? :=
  match n with | 0 | 1 | 2 | 3 | 4 | 5 | 6 | 7 | _ + 8 => rfl

theorem Cause.ofCode_eq (n : Nat) : Cause.ofCode n =
    [Cause.none, .startLimit, .minStop, .stagger, .suction, .betterStarter, .notEligible, .link][n]? :=
  match n with | 0 | 1 | 2 | 3 | 4 | 5 | 6 | 7 | _ + 8 => rfl

theorem WashState.ofCode_eq (n : Nat) : WashState.ofCode n =
    [WashState.idle, .claiming, .waiting, .washing, .yielded, .releasing][n]? :=
  match n with | 0 | 1 | 2 | 3 | 4 | 5 | _ + 6 => rfl

theorem ClaimClass.ofCode_eq (n : Nat) : ClaimClass.ofCode n = [ClaimClass.routine, .urgent][n]? :=
  match n with | 0 | 1 | _ + 2 => rfl

theorem AlarmState.ofCode_eq {n : Nat} (h : n < 4) :
    [AlarmState.normal, .unack, .acked, .returned][n]? = some (AlarmState.ofCode n) := by
  interval_cases n <;> rfl

theorem Stage.code_lt (c : Stage) : c.code < 3 := by cases c <;> decide
theorem Sensor.code_lt (c : Sensor) : c.code < 3 := by cases c <;> decide
theorem PumpState.code_lt (c : PumpState) : c.code < 8 := by cases c <;> decide
theorem Cause.code_lt (c : Cause) : c.code < 8 := by cases c <;> decide
theorem WashState.code_lt (c : WashState) : c.code < 6 := by cases c <;> decide
theorem ClaimClass.code_lt (c : ClaimClass) : c.code < 2 := by cases c <;> decide
theorem AlarmState.code_lt (c : AlarmState) : c.code < 4 := by cases c <;> decide

theorem Stage.ofCode_code (c : Stage) : Stage.ofCode c.code = some c := by cases c <;> rfl
theorem Sensor.ofCode_code (c : Sensor) : Sensor.ofCode c.code = some c := by cases c <;> rfl
theorem PumpState.ofCode_code (c : PumpState) : PumpState.ofCode c.code = some c := by cases c <;> rfl
theorem Cause.ofCode_code (c : Cause) : Cause.ofCode c.code = some c := by cases c <;> rfl
theorem WashState.ofCode_code (c : WashState) : WashState.ofCode c.code = some c := by cases c <;> rfl
theorem ClaimClass.ofCode_code (c : ClaimClass) : ClaimClass.ofCode c.code = some c := by cases c <;> rfl
theorem AlarmState.ofCode_code (c : AlarmState) : AlarmState.ofCode c.code = c := by cases c <;> rfl

/-! ### A report read -/

/-- The alarm states of a STATUS payload. -/
def alarmsAt (p : List Byte) : Vector AlarmState 17 :=
  Vector.ofFn fun i : Fin 17 => AlarmState.ofCode (byteAt p (18 + i.val / 4) / 4 ^ (i.val % 4) % 4)

/-- The report of a payload whose codes are read. -/
def fieldsAt (p : List Byte) (stage : Stage) (outerSensor innerSensor : Sensor) (pumpState : PumpState) (cause : Cause)
    (wash : WashState) (cls : ClaimClass) : Report :=
  { restart := flagAt (byteAt p 0) 0, swarm := flagAt (byteAt p 0) 1, demandHeld := flagAt (byteAt p 0) 2,
    outerSuspect := flagAt (byteAt p 0) 3, eligible := flagAt (byteAt p 0) 4, startable := flagAt (byteAt p 0) 5,
    runFeedback := flagAt (byteAt p 0) 6, foulingStale := flagAt (byteAt p 0) 7,
    stage, outerSensor, innerSensor, pumpState, cause, wash, cls, tag := byteAt p 3 / 16 % 16, fouling := byteAt p 4,
    outerLevel := intAt p 5, innerLevel := intAt p 7, runHours := wordAt p 9, starts := byteAt p 11,
    score := wordAt p 12, screenPeriod := wordAt p 14, swarmIntensity := wordAt p 16, alarms := alarmsAt p }

/-- The numbers of a payload lie in their ranges (R22). -/
def numbersAllowed (p : List Byte) : Bool :=
  reportInRange (byteAt p 4) (byteAt p 11) (wordAt p 12) (wordAt p 16) (intAt p 5) (intAt p 7)

section
variable {p : List Byte} {stage : Stage} {outer inner : Sensor} {pump : PumpState} {cause : Cause} {wash : WashState} {cls : ClaimClass}

/-- The codes of a payload name these values. -/
structure CodesAt (p : List Byte) (stage : Stage) (outer inner : Sensor) (pump : PumpState) (cause : Cause) (wash : WashState)
    (cls : ClaimClass) : Prop where
  stage : Stage.ofCode (byteAt p 1 % 4) = some stage
  outer : Sensor.ofCode (byteAt p 1 / 4 % 4) = some outer
  inner : Sensor.ofCode (byteAt p 1 / 16 % 4) = some inner
  pump  : PumpState.ofCode (byteAt p 2 % 16) = some pump
  cause : Cause.ofCode (byteAt p 2 / 16 % 16) = some cause
  wash  : WashState.ofCode (byteAt p 3 % 8) = some wash
  cls   : ClaimClass.ofCode (byteAt p 3 / 8 % 2) = some cls

theorem decodeReport_of_codes (h : CodesAt p stage outer inner pump cause wash cls) : decodeReport p =
    if numbersAllowed p then some (fieldsAt p stage outer inner pump cause wash cls) else none := by
  obtain ⟨h1, h2, h3, h4, h5, h6, h7⟩ := h
  simp only [decodeReport, h1, h2, h3, h4, h5, h6, h7]
  rfl

theorem decodeReport_some {r : Report} (h : decodeReport p = some r) :
    CodesAt p r.stage r.outerSensor r.innerSensor r.pumpState r.cause r.wash r.cls ∧ numbersAllowed p = true ∧
    r = fieldsAt p r.stage r.outerSensor r.innerSensor r.pumpState r.cause r.wash r.cls := by
  unfold decodeReport at h
  dsimp only at h
  split at h
  next h1 h2 h3 h4 h5 h6 h7 =>
    obtain ⟨hn, he⟩ := Option.ite_none_right_eq_some.1 h
    obtain rfl := Option.some.inj he
    exact ⟨⟨h1, h2, h3, h4, h5, h6, h7⟩, hn, rfl⟩
  next => simp at h

theorem numbersAllowed_iff : numbersAllowed p = true ↔ byteAt p 4 ≤ 100 ∧ -10000 ≤ intAt p 5 ∧ intAt p 5 ≤ 30000 ∧
    -10000 ≤ intAt p 7 ∧ intAt p 7 ≤ 30000 ∧ byteAt p 11 ≤ 6 ∧ (wordAt p 12 ≤ 855 ∨ wordAt p 12 = 1023) ∧ wordAt p 16 ≤ 1200 := by
  simp [numbersAllowed, reportInRange, and_assoc]

/-- A list of codes names a value exactly below its length. -/
theorem named_of_lt {α : Type} {f : Nat → Option α} {l : List α} (h : ∀ n, f n = l[n]?) {n : Nat} (hn : n < l.length) :
    ∃ v, f n = some v := ⟨l[n], by rw [h, List.getElem?_eq_getElem hn]⟩

theorem lt_of_named {α : Type} {f : Nat → Option α} {l : List α} (h : ∀ n, f n = l[n]?) {n : Nat} {v : α} (hv : f n = some v) :
    n < l.length := by
  rw [h] at hv
  exact (List.getElem?_eq_some_iff.1 hv).1

theorem CodesAt.bounds (h : CodesAt p stage outer inner pump cause wash cls) : byteAt p 1 % 4 < 3 ∧ byteAt p 1 / 4 % 4 < 3 ∧
    byteAt p 1 / 16 % 4 < 3 ∧ byteAt p 2 % 16 < 8 ∧ byteAt p 2 / 16 % 16 < 8 ∧ byteAt p 3 % 8 < 6 :=
  ⟨lt_of_named Stage.ofCode_eq h.stage, lt_of_named Sensor.ofCode_eq h.outer, lt_of_named Sensor.ofCode_eq h.inner,
    lt_of_named PumpState.ofCode_eq h.pump, lt_of_named Cause.ofCode_eq h.cause, lt_of_named WashState.ofCode_eq h.wash⟩

theorem codesAt_of_bounds (h : byteAt p 1 % 4 < 3 ∧ byteAt p 1 / 4 % 4 < 3 ∧ byteAt p 1 / 16 % 4 < 3 ∧ byteAt p 2 % 16 < 8 ∧
    byteAt p 2 / 16 % 16 < 8 ∧ byteAt p 3 % 8 < 6) : ∃ stage outer inner pump cause wash cls,
    CodesAt p stage outer inner pump cause wash cls := by
  obtain ⟨h1, h2, h3, h4, h5, h6⟩ := h
  obtain ⟨v1, e1⟩ := named_of_lt Stage.ofCode_eq h1
  obtain ⟨v2, e2⟩ := named_of_lt Sensor.ofCode_eq h2
  obtain ⟨v3, e3⟩ := named_of_lt Sensor.ofCode_eq h3
  obtain ⟨v4, e4⟩ := named_of_lt PumpState.ofCode_eq h4
  obtain ⟨v5, e5⟩ := named_of_lt Cause.ofCode_eq h5
  obtain ⟨v6, e6⟩ := named_of_lt WashState.ofCode_eq h6
  obtain ⟨v7, e7⟩ := named_of_lt ClaimClass.ofCode_eq (Nat.mod_lt (byteAt p 3 / 8) (by decide))
  exact ⟨_, _, _, _, _, _, _, e1, e2, e3, e4, e5, e6, e7⟩

theorem decodeReport_isSome_iff : (∃ r, decodeReport p = some r) ↔ (byteAt p 1 % 4 < 3 ∧ byteAt p 1 / 4 % 4 < 3 ∧
    byteAt p 1 / 16 % 4 < 3 ∧ byteAt p 2 % 16 < 8 ∧ byteAt p 2 / 16 % 16 < 8 ∧ byteAt p 3 % 8 < 6) ∧ numbersAllowed p = true := by
  constructor
  · rintro ⟨r, hr⟩
    obtain ⟨hcodes, hnumbers, -⟩ := decodeReport_some hr
    exact ⟨hcodes.bounds, hnumbers⟩
  · rintro ⟨hb, hn⟩
    obtain ⟨_, _, _, _, _, _, _, h⟩ := codesAt_of_bounds hb
    exact ⟨_, (decodeReport_of_codes h).trans (if_pos hn)⟩

/-- The refusals of a STATUS payload, field by field (R22). -/
theorem decodeReport_eq_none_iff : decodeReport p = none ↔
    byteAt p 1 % 4 = 3 ∨ byteAt p 1 / 4 % 4 = 3 ∨ byteAt p 1 / 16 % 4 = 3 ∨ 7 < byteAt p 2 % 16 ∨ 7 < byteAt p 2 / 16 ∨
    5 < byteAt p 3 % 8 ∨ 100 < byteAt p 4 ∨ intAt p 5 < -10000 ∨ 30000 < intAt p 5 ∨ intAt p 7 < -10000 ∨ 30000 < intAt p 7 ∨
    6 < byteAt p 11 ∨ (856 ≤ wordAt p 12 ∧ wordAt p 12 ≤ 1022) ∨ 1023 < wordAt p 12 ∨ 1200 < wordAt p 16 := by
  have hsome : decodeReport p = none ↔ ¬∃ r, decodeReport p = some r := by
    rw [Option.eq_none_iff_forall_ne_some, not_exists]
  have h2 := byteAt_lt p 2
  rw [hsome, decodeReport_isSome_iff, numbersAllowed_iff]
  omega

theorem flags_eq_bits (n : Nat) : (List.range 8).map n.testBit =
    [flagAt n 0, flagAt n 1, flagAt n 2, flagAt n 3, flagAt n 4, flagAt n 5, flagAt n 6, flagAt n 7] := by
  simp only [flagAt, ← Nat.testBit_eq_decide_div_mod_eq]
  rfl

theorem reportAt_of_decode {r : Report} (h : decodeReport p = some r) : reportAt p r := by
  obtain ⟨⟨h1, h2, h3, h4, h5, h6, h7⟩, -, hr⟩ := decodeReport_some h
  have hb2 := byteAt_lt p 2
  have hb3 := byteAt_lt p 3
  have hcause : byteAt p 2 / 16 % 16 = byteAt p 2 / 16 := by omega
  have htag : byteAt p 3 / 16 % 16 = byteAt p 3 / 16 := by omega
  rw [Stage.ofCode_eq] at h1
  rw [Sensor.ofCode_eq] at h2 h3
  rw [PumpState.ofCode_eq] at h4
  rw [Cause.ofCode_eq, hcause] at h5
  rw [WashState.ofCode_eq] at h6
  rw [ClaimClass.ofCode_eq] at h7
  refine ⟨?_, h1, h2, h3, h4, h5, h6, h7, ?_, ?_, ?_, ?_, ?_, ?_, ?_, ?_, ?_, fun a => ?_⟩
  · rw [flags_eq_bits, hr]
    rfl
  · rw [← htag, hr]
    rfl
  iterate 8 rw [hr]; rfl
  · rw [AlarmState.ofCode_eq (Nat.mod_lt _ (by decide)), hr]
    simp [fieldsAt, alarmsAt]

end

/-! ### A report written -/

section
variable {r : Report}

theorem flagBit_eq (b : Bool) (n : Nat) : flagBit b n = b.toNat * 2 ^ n := by cases b <;> simp [flagBit]

theorem flagAt_eq {n place : Nat} {b : Bool} (h : n / 2 ^ place % 2 = b.toNat) : flagAt n place = b := by
  cases b <;> simp [flagAt, h]

/-- The flags of byte 0 read back. -/
theorem flagsByte_toNat : (flagsByte r).toNat = r.restart.toNat + r.swarm.toNat * 2 + r.demandHeld.toNat * 4 +
    r.outerSuspect.toNat * 8 + r.eligible.toNat * 16 + r.startable.toNat * 32 + r.runFeedback.toNat * 64 + r.foulingStale.toNat * 128 := by
  have h0 := r.restart.toNat_le
  have h1 := r.swarm.toNat_le
  have h2 := r.demandHeld.toNat_le
  have h3 := r.outerSuspect.toNat_le
  have h4 := r.eligible.toNat_le
  have h5 := r.startable.toNat_le
  have h6 := r.runFeedback.toNat_le
  have h7 := r.foulingStale.toNat_le
  simp only [flagsByte, byte_toNat, flagBit_eq]
  omega

theorem flagsByte_flags : flagAt (flagsByte r).toNat 0 = r.restart ∧ flagAt (flagsByte r).toNat 1 = r.swarm ∧
    flagAt (flagsByte r).toNat 2 = r.demandHeld ∧ flagAt (flagsByte r).toNat 3 = r.outerSuspect ∧
    flagAt (flagsByte r).toNat 4 = r.eligible ∧ flagAt (flagsByte r).toNat 5 = r.startable ∧
    flagAt (flagsByte r).toNat 6 = r.runFeedback ∧ flagAt (flagsByte r).toNat 7 = r.foulingStale := by
  have h0 := r.restart.toNat_le
  have h1 := r.swarm.toNat_le
  have h2 := r.demandHeld.toNat_le
  have h3 := r.outerSuspect.toNat_le
  have h4 := r.eligible.toNat_le
  have h5 := r.startable.toNat_le
  have h6 := r.runFeedback.toNat_le
  have h7 := r.foulingStale.toNat_le
  rw [flagsByte_toNat]
  refine ⟨?_, ?_, ?_, ?_, ?_, ?_, ?_, ?_⟩ <;> exact flagAt_eq (by omega)

theorem alarmCodeAt_lt (v : Vector AlarmState 17) (n : Nat) : alarmCodeAt v n < 4 := by
  unfold alarmCodeAt
  split
  next => exact AlarmState.code_lt _
  next => decide

theorem alarmByte_code (v : Vector AlarmState 17) (k : Nat) {j : Nat} (hj : j < 4) :
    (alarmByte v k).toNat / 4 ^ j % 4 = alarmCodeAt v (4 * k + j) := by
  have h0 := alarmCodeAt_lt v (4 * k)
  have h1 := alarmCodeAt_lt v (4 * k + 1)
  have h2 := alarmCodeAt_lt v (4 * k + 2)
  have h3 := alarmCodeAt_lt v (4 * k + 3)
  rw [alarmByte, byte_toNat]
  interval_cases j <;> simp only [Nat.pow_zero, Nat.pow_one, Nat.reducePow, Nat.add_zero] <;> omega

theorem byteAt_encodeReport_alarm {k : Nat} (hk : k < 5) : byteAt (encodeReport r) (18 + k) = (alarmByte r.alarms k).toNat := by
  interval_cases k <;> rfl

theorem alarmsAt_encodeReport : alarmsAt (encodeReport r) = r.alarms := by
  refine Vector.ext fun i hi => ?_
  have hk : i / 4 < 5 := by omega
  simp only [alarmsAt, Vector.getElem_ofFn]
  rw [byteAt_encodeReport_alarm hk, alarmByte_code _ _ (Nat.mod_lt i (by decide)), Nat.div_add_mod, alarmCodeAt, dif_pos hi,
    AlarmState.ofCode_code]

/-- The coded fields of a written report name their values. -/
theorem codesAt_encodeReport (ht : r.tag < 16) :
    CodesAt (encodeReport r) r.stage r.outerSensor r.innerSensor r.pumpState r.cause r.wash r.cls ∧
    byteAt (encodeReport r) 3 / 16 % 16 = r.tag := by
  have h1 : byteAt (encodeReport r) 1 = (r.stage.code + 4 * r.outerSensor.code + 16 * r.innerSensor.code) % 256 := byte_toNat _
  have h2 : byteAt (encodeReport r) 2 = (r.pumpState.code + 16 * r.cause.code) % 256 := byte_toNat _
  have h3 : byteAt (encodeReport r) 3 = (r.wash.code + 8 * r.cls.code + 16 * r.tag) % 256 := byte_toNat _
  have hstage := r.stage.code_lt
  have houter := r.outerSensor.code_lt
  have hinner := r.innerSensor.code_lt
  have hpump := r.pumpState.code_lt
  have hcause := r.cause.code_lt
  have hwash := r.wash.code_lt
  have hcls := r.cls.code_lt
  refine ⟨⟨?_, ?_, ?_, ?_, ?_, ?_, ?_⟩, by omega⟩
  · rw [show byteAt (encodeReport r) 1 % 4 = r.stage.code by omega, Stage.ofCode_code]
  · rw [show byteAt (encodeReport r) 1 / 4 % 4 = r.outerSensor.code by omega, Sensor.ofCode_code]
  · rw [show byteAt (encodeReport r) 1 / 16 % 4 = r.innerSensor.code by omega, Sensor.ofCode_code]
  · rw [show byteAt (encodeReport r) 2 % 16 = r.pumpState.code by omega, PumpState.ofCode_code]
  · rw [show byteAt (encodeReport r) 2 / 16 % 16 = r.cause.code by omega, Cause.ofCode_code]
  · rw [show byteAt (encodeReport r) 3 % 8 = r.wash.code by omega, WashState.ofCode_code]
  · rw [show byteAt (encodeReport r) 3 / 8 % 2 = r.cls.code by omega, ClaimClass.ofCode_code]

/-- A report within the ranges of its fields comes back whole. -/
theorem decode_encodeReport (ht : r.tag < 16) (hf : r.fouling ≤ 100) (ho : -10000 ≤ r.outerLevel) (ho' : r.outerLevel ≤ 30000)
    (hi : -10000 ≤ r.innerLevel) (hi' : r.innerLevel ≤ 30000) (hh : r.runHours < 65536) (hs : r.starts ≤ 6)
    (hc : r.score ≤ 855 ∨ r.score = 1023) (hp : r.screenPeriod < 65536) (hw : r.swarmIntensity ≤ 1200) :
    decodeReport (encodeReport r) = some r := by
  obtain ⟨hcodes, htag⟩ := codesAt_encodeReport ht
  obtain ⟨f0, f1, f2, f3, f4, f5, f6, f7⟩ := flagsByte_flags (r := r)
  have h0 : byteAt (encodeReport r) 0 = (flagsByte r).toNat := rfl
  have h4 : byteAt (encodeReport r) 4 = r.fouling := (byte_toNat _).trans (Nat.mod_eq_of_lt (by omega))
  have h5 : intAt (encodeReport r) 5 = r.outerLevel := intAt_of_bytes16 (byte_toNat _) (byte_toNat _) ho ho'
  have h7 : intAt (encodeReport r) 7 = r.innerLevel := intAt_of_bytes16 (byte_toNat _) (byte_toNat _) hi hi'
  have h9 : wordAt (encodeReport r) 9 = r.runHours := wordAt_of_bytes16 (byte_toNat _) (byte_toNat _) hh
  have h11 : byteAt (encodeReport r) 11 = r.starts := (byte_toNat _).trans (Nat.mod_eq_of_lt (by omega))
  have h12 : wordAt (encodeReport r) 12 = r.score := wordAt_of_bytes16 (byte_toNat _) (byte_toNat _) (by omega)
  have h14 : wordAt (encodeReport r) 14 = r.screenPeriod := wordAt_of_bytes16 (byte_toNat _) (byte_toNat _) hp
  have h16 : wordAt (encodeReport r) 16 = r.swarmIntensity := wordAt_of_bytes16 (byte_toNat _) (byte_toNat _) (by omega)
  have hnumbers : numbersAllowed (encodeReport r) = true := by
    rw [numbersAllowed_iff, h4, h5, h7, h11, h12, h16]
    exact ⟨hf, ho, ho', hi, hi', hs, hc, hw⟩
  rw [decodeReport_of_codes hcodes, if_pos hnumbers, fieldsAt, h0, f0, f1, f2, f3, f4, f5, f6, f7, htag, h4, h5, h7, h9, h11, h12,
    h14, h16, alarmsAt_encodeReport]

end

/-! ### Claims, records and frames -/

theorem decode_encodeClaim {tag n : Nat} (k : ClaimClass) (ht : tag < 16) (hn : 1 ≤ n) (hn' : n ≤ 9000) :
    decodeClaim (encodeClaim tag k n) = some (tag, k, n) := by
  have hk := k.code_lt
  have h0 : byteAt (encodeClaim tag k n) 0 = tag := (byte_toNat _).trans (Nat.mod_eq_of_lt (by omega))
  have h1 : byteAt (encodeClaim tag k n) 1 = k.code := (byte_toNat _).trans (Nat.mod_eq_of_lt (by omega))
  have h2 : wordAt (encodeClaim tag k n) 2 = n := wordAt_of_bytes16 (byte_toNat _) (byte_toNat _) (by omega)
  have hr : (decide (tag ≤ 15) && decide (1 ≤ n) && decide (n ≤ 9000)) = true := by simp [hn, hn', Nat.le_of_lt_succ ht]
  simp only [decodeClaim, h0, h1, h2, ClaimClass.ofCode_code, hr, if_true]

theorem crc_append (covered : List Byte) (b : Byte) : crc (covered ++ [b]) = crcByte (crc covered) b := by
  simp [crc, List.foldl_append]

theorem read_recordBytes {n : Nat} (hn : n < 2 ^ 24) : readRecord (recordBytes n) = some n := by
  have hcrc : wordAt (recordBytes n) 3 = (crc (bytes24 n)).toNat :=
    wordAt_of_bytes16 (byte_toNat _) (byte_toNat _) (crc (bytes24 n)).isLt
  have h0 : byteAt (recordBytes n) 0 = n / 65536 % 256 := byte_toNat _
  have h1 : byteAt (recordBytes n) 1 = n / 256 % 256 := byte_toNat _
  have h2 : byteAt (recordBytes n) 2 = n % 256 := byte_toNat _
  have ht : tripleAt (recordBytes n) 0 = n := by
    rw [tripleAt, wordAt, h0, h1, h2]
    omega
  rw [readRecord_of_length rfl, hcrc, ht, if_pos]
  rfl

theorem bayOfByte_bayNumber (b : Bay) : bayOfByte (byte (bayNumber b)) = some b := by
  revert b
  decide

/-- A station's frame is valid: its length is that of its KIND and its CRC that of its bytes (R156). -/
theorem frameValid_formed {kind : Byte} {b : Bay} {p : List Byte} (hk : kindLength kind = some p.length) (hn : kind ≠ kindOrder) :
    frameValid { kind := kind, bay := byte (bayNumber b), len := byte p.length, payload := p,
                 crc := crc ([kind, byte (bayNumber b), byte p.length] ++ p) } = true := by
  have hl : p.length ≤ 23 := by
    unfold kindLength at hk
    repeat' split at hk
    all_goals simp at hk
    all_goals omega
  have hb : 1 ≤ bayNumber b ∧ bayNumber b ≤ 12 := ⟨Nat.le_add_left 1 _, b.isLt⟩
  have hlen : (byte p.length).toNat = p.length := (byte_toNat _).trans (Nat.mod_eq_of_lt (by omega))
  have hbay : (byte (bayNumber b)).toNat = bayNumber b := (byte_toNat _).trans (Nat.mod_eq_of_lt (by omega))
  simp [frameValid, frameComplete, frameBayAllowed, frameCovered, hlen, hbay, hl, hk, hn, hb]

/-- Settles O49. -/
theorem layoutsReadBackWhole : Obligations.LayoutsReadBackWhole := by
  unfold Obligations.LayoutsReadBackWhole
  refine ⟨fun r ht hf ho ho' hi hi' hh hs hc hp hw => ⟨encodeReport_length r, decode_encodeReport ht hf ho ho' hi hi' hh hs hc hp hw⟩,
    fun p r => reportAt_of_decode, fun p => decodeReport_eq_none_iff, fun tag n k => decode_encodeClaim k,
    ⟨rfl, fun covered b => crc_append covered b⟩, fun n hn => ⟨rfl, read_recordBytes hn⟩,
    fun kind b p hk hn => ⟨frameValid_formed hk hn, bayOfByte_bayNumber b⟩⟩

end Sys2Proof.Machine
end

section
/-! PROOF. The pair at the fouling monitor and the pump controller: the statements O13 and O14. -/

namespace Sys2Proof.Machine

set_option Elab.async false

/-! ### The protective stop at the pump -/

/-- A pump stopped by a STOP pulse issued at a clock value (R134). -/
def Halted (x : Ctx) (now : Clock) (p : Pump) : Prop := p.state = .stopping ∧ p.pulse = some .stop ∧
  p.pulseTimer = some (now + ms (x.cfg.stopPulse * 100)) ∧ p.feedbackTimer = some (now + ms (x.cfg.stopTimeout * 1000)) ∧
  p.minRunTimer = none

/-- What a protective stop makes of a pump, by its state (R136). -/
structure PumpStops (x : Ctx) (now : Clock) (c : Cause) (p q : Pump) : Prop where
  runs    : p.state = .starting ∨ p.state = .running → Halted x now q
  pending : p.state = .startPending → q = { p with state := .stopped, cause := c, guardTimer := none }
  rests   : p.state ≠ .starting → p.state ≠ .running → p.state ≠ .startPending → q = p

section
variable {x : Ctx} {s t u : State}

theorem enterStopping_halted : Halted x s.clock (enterStopping x s).pump := by
  simp [Halted, enterStopping, issuePulse, ahead]

theorem protectiveStop_stops {c : Cause} : PumpStops x s.clock c s.pump (protectiveStop x c s).pump := by
  unfold protectiveStop
  constructor
  · rintro (h | h) <;> rw [h] <;> exact enterStopping_halted
  · intro h
    rw [h]
    exact (withdrawStart_pump h).1
  · intro h1 h2 h3
    cases h : s.pump.state <;> simp_all

/-- A pump stopped stands under a further stop. -/
theorem PumpStops.again {now now' : Clock} {c c' : Cause} {p q r : Pump} (h : PumpStops x now c p q) (k : PumpStops x now' c' q r) :
    r = q := by
  refine k.rests ?_ ?_ ?_ <;> intro hq
  all_goals
    by_cases h1 : p.state = .starting ∨ p.state = .running
    · simp [(h.runs h1).1] at hq
    by_cases h2 : p.state = .startPending
    · simp [h.pending h2] at hq
    · have he := h.rests (fun e => h1 (.inl e)) (fun e => h1 (.inr e)) h2
      simp_all

theorem suctionChanged_pump (v : Bool) : (v = true → PumpStops x s.clock .suction s.pump (suctionChanged x v s).pump) ∧
    (v = false → (suctionChanged x v s).pump = s.pump) := by
  refine ⟨fun h => ?_, fun h => by simp [suctionChanged, h]⟩
  rw [suctionChanged, if_pos h]
  simpa using protectiveStop_stops (x := x) (c := .suction) (s := setCond x .suctionLow v s)

theorem blockedChanged_pump (v : Bool) : (v = true → PumpStops x s.clock .notEligible s.pump (blockedChanged x v s).pump) ∧
    (v = false → (blockedChanged x v s).pump = s.pump) := by
  refine ⟨fun h => ?_, fun h => by simp [blockedChanged, h]⟩
  rw [blockedChanged, if_pos h]
  simpa using protectiveStop_stops (x := x) (c := .notEligible) (s := setCond x .screenBlocked v s)

/-! ### The fouling update -/

/-- SCREEN BLOCKED as a fouling update leaves it (R62). -/
def blockedByPair (c : Settings) (s : State) : Bool :=
  blockedAfter c s.conds.screenBlocked (foulingAfterPair c s).1 (foulingAfterPair c s).2

theorem blockedChanged_blocked (v : Bool) : (blockedChanged x v s).conds.screenBlocked = v := by
  unfold blockedChanged
  dsimp only
  split
  · rw [(protectiveStop_pumpOnly x _ _).conds, setCond_conds]
    rfl
  · rw [setCond_conds]
    rfl

theorem suctionChanged_suction (v : Bool) : (suctionChanged x v s).conds.suctionLow = v := by
  unfold suctionChanged
  dsimp only
  split
  · rw [(protectiveStop_pumpOnly x _ _).conds, setCond_conds]
    rfl
  · rw [setCond_conds]
    rfl

theorem suctionChanged_conds (v : Bool) : CondsOnly [.suctionLow, .pumpTrip, .pumpFail] s (suctionChanged x v s) :=
  .trans (.cond .suctionLow v s) (.ite (fun _ => .of_pumpOnly (protectiveStop_pumpOnly x _ _)) fun _ => .refl _)

theorem blockedChanged_conds (v : Bool) : CondsOnly [.screenBlocked, .pumpTrip, .pumpFail] s (blockedChanged x v s) :=
  .trans (.cond .screenBlocked v s) (.ite (fun _ => .of_pumpOnly (protectiveStop_pumpOnly x _ _)) fun _ => .refl _)

theorem foulingUpdate_conds : CondsOnly [.screenBlocked, .pumpTrip, .pumpFail] s (foulingUpdate x s) := by
  unfold foulingUpdate
  refine .ite (fun _ => .of_eq) fun _ => ?_
  exact .trans .of_eq (.eitherOrder (fun t => .of_eq) (fun t => blockedChanged_conds _) _)

theorem blockedChanged_fouling (v : Bool) : (blockedChanged x v s).fouling.index = s.fouling.index ∧
    (blockedChanged x v s).fouling.stale = s.fouling.stale := by
  unfold blockedChanged
  dsimp only
  split
  · rw [(protectiveStop_pumpOnly x _ _).fouling]
    simp
  · simp

/-- The fouling index of a pair taken, before its hand-overs. -/
def indexTaken (x : Ctx) (s : State) : State := { s with fouling := { s.fouling with
  index := (foulingAfterPair x.cfg s).1, stale := (foulingAfterPair x.cfg s).2 } }

theorem foulingUpdate_still (h : blockedByPair x.cfg s = s.conds.screenBlocked) :
    foulingUpdate x s = triggerCheck x .foulingUpdate (indexTaken x s) := if_pos h

theorem foulingUpdate_moved (h : blockedByPair x.cfg s ≠ s.conds.screenBlocked) : foulingUpdate x s =
    eitherOrder (triggerCheck x .foulingUpdate) (blockedChanged x (blockedByPair x.cfg s)) (indexTaken x s) := if_neg h

/-- The pump, the conditions and the fouling monitor after an update whose SCREEN BLOCKED moves, the trigger check leaving them. -/
theorem foulingUpdate_hands (h : blockedByPair x.cfg s ≠ s.conds.screenBlocked) : ∃ u : State, u.pump = s.pump ∧ u.clock = s.clock ∧
    u.fouling = (indexTaken x s).fouling ∧
    (foulingUpdate x s).pump = (blockedChanged x (blockedByPair x.cfg s) u).pump ∧
    (foulingUpdate x s).conds = (blockedChanged x (blockedByPair x.cfg s) u).conds ∧
    (foulingUpdate x s).fouling = (blockedChanged x (blockedByPair x.cfg s) u).fouling := by
  rw [foulingUpdate_moved h]
  rcases eitherOrder_cases (triggerCheck x .foulingUpdate) (blockedChanged x (blockedByPair x.cfg s)) (indexTaken x s) with he | he
  · refine ⟨triggerCheck x .foulingUpdate { indexTaken x s with choices := (indexTaken x s).choices + 1 }, ?_⟩
    rw [he]
    simp [indexTaken]
  · refine ⟨{ indexTaken x s with choices := (indexTaken x s).choices + 1 }, rfl, rfl, rfl, ?_⟩
    rw [he]
    simp

theorem foulingUpdate_index : (foulingUpdate x s).fouling.index = (foulingAfterPair x.cfg s).1 ∧
    (foulingUpdate x s).fouling.stale = (foulingAfterPair x.cfg s).2 := by
  by_cases h : blockedByPair x.cfg s = s.conds.screenBlocked
  · rw [foulingUpdate_still h]
    simp [indexTaken]
  · obtain ⟨u, -, -, hu, -, -, hf⟩ := foulingUpdate_hands h
    obtain ⟨h1, h2⟩ := blockedChanged_fouling (x := x) (s := u) (blockedByPair x.cfg s)
    rw [hf, h1, h2, hu]
    exact ⟨rfl, rfl⟩

theorem foulingUpdate_blocked : (foulingUpdate x s).conds.screenBlocked = blockedByPair x.cfg s := by
  by_cases h : blockedByPair x.cfg s = s.conds.screenBlocked
  · rw [foulingUpdate_still h, h]
    simp [indexTaken]
  · obtain ⟨u, -, -, -, -, hc, -⟩ := foulingUpdate_hands h
    rw [hc, blockedChanged_blocked]

/-- A rise of SCREEN BLOCKED stops the pump, and nothing else of an update moves it (R63, R136). -/
theorem foulingUpdate_pump :
    (s.conds.screenBlocked = false ∧ blockedByPair x.cfg s = true → PumpStops x s.clock .notEligible s.pump (foulingUpdate x s).pump) ∧
    (¬(s.conds.screenBlocked = false ∧ blockedByPair x.cfg s = true) → (foulingUpdate x s).pump = s.pump) := by
  by_cases h : blockedByPair x.cfg s = s.conds.screenBlocked
  · rw [foulingUpdate_still h]
    refine ⟨fun ⟨h1, h2⟩ => ?_, fun _ => by simp [indexTaken]⟩
    rw [h1, h2] at h
    cases h
  · obtain ⟨u, hup, huc, -, hp, -⟩ := foulingUpdate_hands h
    obtain ⟨hrise, hfall⟩ := blockedChanged_pump (x := x) (s := u) (blockedByPair x.cfg s)
    rw [hp, ← hup, ← huc]
    refine ⟨fun hr => hrise hr.2, fun hn => hfall ?_⟩
    cases hv : blockedByPair x.cfg s
    · rfl
    · rw [hv] at h hn
      exact absurd ⟨by simpa using (Ne.symm h), rfl⟩ hn

/-! ### The sample -/

/-- The station once both loops are sampled and the two sensor conditions judged (R2, R15, R42). -/
def sampled (x : Ctx) (outer inner : Nat) (s : State) : State :=
  let t := sampledLoops x outer inner s
  let u := setCond x .innerSensor (t.front.inner.state ≠ .good) t
  setCond x .outerSensor (u.front.outer.state ≠ .good || u.tide.suspect) u

theorem sampleStep_eq {outer inner : Nat} : sampleStep x outer inner s = deliverPair x (checkPending x (sampled x outer inner s)) := rfl

theorem checkPending_idle (h : s.pump.state ≠ .startPending ∨ failingPart x.cfg s = none) : checkPending x s = s := by
  unfold checkPending
  split
  next hp =>
    rw [h.resolve_left (not_not.2 hp)]
  next => rfl

theorem checkPending_withdraws {c : Cause} (h : s.pump.state = .startPending) (hc : failingPart x.cfg s = some c) :
    checkPending x s = withdrawStart x c s := by
  simp [checkPending, h, hc]

/-- A check of a pending start leaves the pump, or withdraws the start. -/
theorem checkPending_pump : (checkPending x s).fouling = s.fouling ∧ ((checkPending x s).pump = s.pump ∨ s.pump.state = .startPending ∧
    ∃ c, failingPart x.cfg s = some c ∧ (checkPending x s).pump = { s.pump with state := .stopped, guardTimer := none, cause := c }) := by
  by_cases hp : s.pump.state = .startPending
  · cases hc : failingPart x.cfg s with
    | none => rw [checkPending_idle (.inr hc)]; exact ⟨rfl, .inl rfl⟩
    | some c =>
      obtain ⟨h1, h2, -⟩ := withdrawStart_pump (x := x) (c := c) hp
      rw [checkPending_withdraws hp hc]
      exact ⟨h2, .inr ⟨hp, c, rfl, h1⟩⟩
  · rw [checkPending_idle (.inl hp)]
    exact ⟨rfl, .inl rfl⟩

theorem failingPart_eq_none : failingPart x.cfg s = none ↔ eligible s = true ∧ startsInLastHour s < x.cfg.startLimit ∧
    s.pump.minStopTimer = none ∧ s.conds.suctionLow = false := by
  simp [failingPart, refusal_passes]

theorem failingPart_ineligible (h : eligible s = false) : failingPart x.cfg s = some .notEligible := by
  simp [failingPart, h]

theorem deliverPair_still (h : suctionAfterPair x.cfg s.conds.suctionLow s.front.inner = s.conds.suctionLow) :
    deliverPair x s = foulingUpdate x s := if_pos h

theorem deliverPair_moved (h : suctionAfterPair x.cfg s.conds.suctionLow s.front.inner ≠ s.conds.suctionLow) : deliverPair x s =
    eitherOrder (foulingUpdate x) (suctionChanged x (suctionAfterPair x.cfg s.conds.suctionLow s.front.inner)) s := if_neg h

theorem deliverPair_suction : (deliverPair x s).conds.suctionLow = suctionAfterPair x.cfg s.conds.suctionLow s.front.inner := by
  have hkept (u : State) : (foulingUpdate x u).conds.suctionLow = u.conds.suctionLow :=
    foulingUpdate_conds (x := x) (s := u) .suctionLow (by decide)
  by_cases h : suctionAfterPair x.cfg s.conds.suctionLow s.front.inner = s.conds.suctionLow
  · rw [deliverPair_still h, hkept, h]
  · rw [deliverPair_moved h]
    rcases eitherOrder_cases (foulingUpdate x) (suctionChanged x (suctionAfterPair x.cfg s.conds.suctionLow s.front.inner)) s with he | he <;> rw [he]
    · rw [suctionChanged_suction]
    · rw [hkept, suctionChanged_suction]

/-- The station of an expiry of the sample timer, its timer moved on, its pair taken and a pending start checked. -/
def pairTaken (x : Ctx) (d : Clock) (outer inner : Nat) (s : State) : State :=
  checkPending x (sampled x outer inner { s with front := { s.front with sampleTimer := rearmed d 100 } })

theorem sampleTimer_step {d : Clock} {outer inner : BitVec 12} (hx : ctx? s = some x) (ht : s.front.sampleTimer = some d)
    (hd : reached s.clock d = true) : exec (.sampleTimerExpiry outer inner) s = .next (deliverPair x (pairTaken x d outer.toNat inner.toNat s)) :=
  congrArg Host.Outcome.next (whenLive_due (T := fun s => s.front.sampleTimer) hx ht hd _)

/-- A sample moves the front end's loops, its two conditions and their alarms, and the pump no more than a pending start. -/
theorem sampled_kept {outer inner : Nat} : (sampled x outer inner s).pump = s.pump ∧ (sampled x outer inner s).fouling = s.fouling ∧
    (sampled x outer inner s).loader = s.loader ∧ (sampled x outer inner s).front = (sampledLoops x outer inner s).front ∧
    CondsOnly [.innerSensor, .outerSensor] s (sampled x outer inner s) := by
  refine ⟨by simp [sampled], by simp [sampled], by simp [sampled], by simp [sampled], ?_⟩
  exact .trans (.of_eq (t := sampledLoops x outer inner s)) (.trans (.cond .innerSensor _ _) (.cond .outerSensor _ _))

theorem pairTaken_kept {d : Clock} {outer inner : Nat} : (pairTaken x d outer inner s).fouling = s.fouling ∧
    (pairTaken x d outer inner s).tide = s.tide ∧ (pairTaken x d outer inner s).clock = s.clock ∧
    (pairTaken x d outer inner s).conds.suctionLow = s.conds.suctionLow ∧
    (pairTaken x d outer inner s).conds.screenBlocked = s.conds.screenBlocked := by
  obtain ⟨-, hf, -, -, hc⟩ := sampled_kept (x := x) (outer := outer) (inner := inner)
    (s := { s with front := { s.front with sampleTimer := rearmed d 100 } })
  have hp := checkPending_pumpOnly x (sampled x outer inner { s with front := { s.front with sampleTimer := rearmed d 100 } })
  refine ⟨checkPending_pump.1.trans hf, by simp [pairTaken, sampled], by simp [pairTaken, sampled], ?_, ?_⟩
  · rw [pairTaken, hp.conds]
    exact hc .suctionLow (by decide)
  · rw [pairTaken, hp.conds]
    exact hc .screenBlocked (by decide)

/-- A pending start at a sample: withdrawn where the inner sensor is not GOOD, and standing where STARTABLE holds in its other parts. -/
theorem pairTaken_pump {d : Clock} {outer inner : Nat} :
    (s.pump.state ≠ .startPending → (pairTaken x d outer inner s).pump = s.pump) ∧
    (s.pump.state = .startPending → (pairTaken x d outer inner s).front.inner.state ≠ .good →
      (pairTaken x d outer inner s).pump = { s.pump with state := .stopped, cause := .notEligible, guardTimer := none }) ∧
    (s.pump.state = .startPending → (pairTaken x d outer inner s).front.inner.state = .good → s.loader.phase = .operating →
      s.conds.bayConflict = false → s.conds.screenBlocked = false → startsInLastHour s < x.cfg.startLimit →
      s.pump.minStopTimer = none → s.conds.suctionLow = false → (pairTaken x d outer inner s).pump = s.pump) ∧
    ((pairTaken x d outer inner s).pump = s.pump ∨ s.pump.state = .startPending ∧ ∃ c, (pairTaken x d outer inner s).pump =
      { s.pump with state := .stopped, cause := c, guardTimer := none }) := by
  obtain ⟨v, hv⟩ : ∃ v, v = sampled x outer inner { s with front := { s.front with sampleTimer := rearmed d 100 } } := ⟨_, rfl⟩
  obtain ⟨hp, -, hl, -, hc⟩ := sampled_kept (x := x) (outer := outer) (inner := inner)
    (s := { s with front := { s.front with sampleTimer := rearmed d 100 } })
  rw [← hv] at hp hl hc
  have hpump : v.pump = s.pump := hp
  have hfront : (pairTaken x d outer inner s).front = v.front := by rw [pairTaken, ← hv]; simp
  rw [hfront, pairTaken, ← hv]
  refine ⟨fun h => ?_, fun h hg => ?_, fun h hg h1 h2 h3 h4 h5 h6 => ?_, ?_⟩
  · rw [checkPending_idle (.inl (by rwa [hpump])), hpump]
  · have he : eligible v = false := Bool.eq_false_iff.2 fun he => hg (eligible_iff.1 he).2.2.2.1
    have hpe : v.pump.state = .startPending := by rw [hpump, h]
    rw [checkPending_withdraws hpe (failingPart_ineligible he), (withdrawStart_pump hpe).1, hpump]
  · have hb : v.conds.screenBlocked = s.conds.screenBlocked := hc .screenBlocked (by decide)
    have hbc : v.conds.bayConflict = s.conds.bayConflict := hc .bayConflict (by decide)
    have hsl : v.conds.suctionLow = s.conds.suctionLow := hc .suctionLow (by decide)
    have he : eligible v = true := eligible_iff.2 ⟨by simp [hpump, h], by simp [hpump, h], by simp [hpump, h], hg, hb.trans h3,
      by rw [hl]; exact h1, hbc.trans h2⟩
    have hs : startsInLastHour v = startsInLastHour s := startsInLastHour_congr (by rw [hpump])
    rw [checkPending_idle (.inr (failingPart_eq_none.2 ⟨he, by rwa [hs], by rw [hpump, h5], hsl.trans h6⟩)), hpump]
  · obtain ⟨-, h⟩ := checkPending_pump (x := x) (s := v)
    rw [hpump] at h
    exact h.imp id fun ⟨h1, c, _, h2⟩ => ⟨h1, c, h2⟩

/-- A rise of SUCTION LOW stops the pump, before or after a rise of SCREEN BLOCKED does (R136). -/
theorem deliverPair_stops (hlow : s.conds.suctionLow = false) (hv : suctionAfterPair x.cfg s.conds.suctionLow s.front.inner = true) :
    ∃ c, PumpStops x s.clock c s.pump (deliverPair x s).pump ∧
      (c = .suction ∨ (c = .notEligible ∧ (deliverPair x s).conds.screenBlocked = true)) := by
  rw [deliverPair_moved (by rw [hv, hlow]; decide), hv]
  obtain ⟨e, he⟩ : ∃ e : State, e = { s with choices := s.choices + 1 } := ⟨_, rfl⟩
  have hpump : e.pump = s.pump := by rw [he]
  have hclock : e.clock = s.clock := by rw [he]
  have horder := eitherOrder_cases (foulingUpdate x) (suctionChanged x true) s
  rw [← he] at horder
  rw [← hpump, ← hclock]
  rcases horder with h | h <;> rw [h]
  · have hs := (suctionChanged_pump (x := x) (s := foulingUpdate x e) true).1 rfl
    obtain ⟨hrise, hstill⟩ := foulingUpdate_pump (x := x) (s := e)
    by_cases hr : e.conds.screenBlocked = false ∧ blockedByPair x.cfg e = true
    · refine ⟨.notEligible, ?_, .inr ⟨rfl, ?_⟩⟩
      · rw [(hrise hr).again hs]
        exact hrise hr
      · exact (suctionChanged_conds (x := x) true .screenBlocked (by decide)).trans (foulingUpdate_blocked.trans hr.2)
    · rw [hstill hr] at hs
      exact ⟨.suction, by simpa using hs, .inl rfl⟩
  · have hs := (suctionChanged_pump (x := x) (s := e) true).1 rfl
    obtain ⟨hrise, hstill⟩ := foulingUpdate_pump (x := x) (s := suctionChanged x true e)
    refine ⟨.suction, ?_, .inl rfl⟩
    by_cases hr : (suctionChanged x true e).conds.screenBlocked = false ∧ blockedByPair x.cfg (suctionChanged x true e) = true
    · rwa [hs.again (hrise hr)]
    · rwa [hstill hr]

end

/-- Settles O13. -/
theorem pairUpdatesTheFoulingIndex : Obligations.PairUpdatesTheFoulingIndex := by
  unfold Obligations.PairUpdatesTheFoulingIndex
  intro s t x d outer inner hx ht hd hexec hsuction
  obtain ⟨w, hw⟩ : ∃ w, w = pairTaken x d outer.toNat inner.toNat s := ⟨_, rfl⟩
  obtain ⟨hfouling, htide, hclock, hsuc, hblk⟩ := pairTaken_kept (x := x) (d := d) (outer := outer.toNat) (inner := inner.toNat) (s := s)
  obtain ⟨hfree, hbad, hgood, -⟩ := pairTaken_pump (x := x) (d := d) (outer := outer.toNat) (inner := inner.toNat) (s := s)
  rw [← hw] at hfouling htide hclock hsuc hblk hfree hbad hgood
  have hdeliver : t = deliverPair x w := hw ▸ Host.Outcome.next.inj (hexec.symm.trans (sampleTimer_step hx ht hd))
  have hstep : t = foulingUpdate x w := by
    rw [hdeliver, deliverPair_still]
    rw [← deliverPair_suction, ← hdeliver, hsuction, hsuc]
  have hfront : t.front = w.front := by rw [hstep]; simp
  obtain ⟨hindex, hstale⟩ := foulingUpdate_index (x := x) (s := w)
  obtain ⟨hrise, hstill⟩ := foulingUpdate_pump (x := x) (s := w)
  have hblocked := foulingUpdate_blocked (x := x) (s := w)
  rw [← hstep] at hindex hstale hrise hstill hblocked
  rw [hblk, ← hblocked] at hrise hstill
  refine ⟨?_, ?_, fun h1 h2 h3 => ?_, fun hp => ⟨fun hg => ?_, fun hg h1 h2 h3 h4 h5 h6 => ⟨fun hb => ?_, fun hb => ?_⟩⟩⟩
  · rw [hindex, hstale, hfront]
    change foulingAfterPair x.cfg w = _
    simp only [foulingAfterPair, headLossOuter, referenceHead, hfouling, htide, Bool.or_eq_true, Bool.and_eq_true, decide_eq_true_eq,
      Bool.not_eq_true']
  · rw [hblocked, blockedByPair, blockedAfter, hindex, hstale, hblk]
  · have hpump : w.pump = s.pump := hfree (by rcases h3 with h | h <;> simp [h])
    have hh := (hrise ⟨h1, h2⟩).runs (by rwa [hpump])
    exact ⟨hh.1, hh.2.1⟩
  · rw [hfront] at hg
    have hpump := hbad hp hg
    by_cases hr : s.conds.screenBlocked = false ∧ t.conds.screenBlocked = true
    · rw [(hrise hr).rests (by simp [hpump]) (by simp [hpump]) (by simp [hpump]), hpump]
    · rw [hstill hr, hpump]
  · rw [hfront] at hg
    have hpump := hgood hp hg h1 h2 h3 h4 h5 h6
    rw [(hrise ⟨h3, hb⟩).pending (by rw [hpump, hp]), hpump]
  · rw [hfront] at hg
    rw [hstill (by simp [hb]), hgood hp hg h1 h2 h3 h4 h5 h6]

/-- Settles O14. -/
theorem suctionLowStopsThePump : Obligations.SuctionLowStopsThePump := by
  unfold Obligations.SuctionLowStopsThePump
  intro s t x d outer inner hx ht hd hexec hlow hrisen
  obtain ⟨w, hw⟩ : ∃ w, w = pairTaken x d outer.toNat inner.toNat s := ⟨_, rfl⟩
  obtain ⟨-, -, hclock, hsuc, -⟩ := pairTaken_kept (x := x) (d := d) (outer := outer.toNat) (inner := inner.toNat) (s := s)
  obtain ⟨hfree, -, hgood, hor⟩ := pairTaken_pump (x := x) (d := d) (outer := outer.toNat) (inner := inner.toNat) (s := s)
  rw [← hw] at hclock hsuc hfree hgood hor
  have hstep : t = deliverPair x w := hw ▸ Host.Outcome.next.inj (hexec.symm.trans (sampleTimer_step hx ht hd))
  have hwlow : w.conds.suctionLow = false := hsuc.trans hlow
  have hv : suctionAfterPair x.cfg w.conds.suctionLow w.front.inner = true := by rw [← deliverPair_suction, ← hstep, hrisen]
  have hinner : w.front.inner.state = .good := by
    by_contra hn
    rw [suctionAfterPair, if_pos hn, hwlow] at hv
    cases hv
  obtain ⟨c, hstops, hcause⟩ := deliverPair_stops hwlow hv
  rw [← hstep] at hstops hcause
  refine ⟨fun hp => ?_, fun hp => ⟨?_, fun h1 h2 h3 h4 h5 => ?_⟩, fun h1 h2 h3 => ?_⟩
  · have hpump : w.pump = s.pump := hfree (by rcases hp with h | h <;> simp [h])
    rw [← hclock]
    exact hstops.runs (by rwa [hpump])
  · rcases hor with h | ⟨-, c', h⟩
    · rw [hstops.pending (by rw [h, hp]), h]
    · rw [hstops.rests (by simp [h]) (by simp [h]) (by simp [h]), h]
  · have hpump := hgood hp hinner h1 h2 h3 h4 h5 hlow
    rw [hstops.pending (by rw [hpump, hp])]
    exact hcause.imp id And.symm
  · have hpump := hfree h3
    rw [hstops.rests (by rwa [hpump]) (by rwa [hpump]) (by rwa [hpump]), hpump]

end Sys2Proof.Machine
end

section
/-! PROOF. The sample of a pair and its trigger check: the statement O12. -/

namespace Sys2Proof.Machine

set_option Elab.async false

theorem append_subset_append {α : Type} {l m : List α} (h : l ⊆ m) (k : List α) : l ++ k ⊆ m ++ k :=
  List.append_subset.2 ⟨List.subset_append_of_subset_left k h, List.subset_append_right m k⟩

/-! ### What a pair moves but for its trigger check -/

/-- A pump that a pair may stop. -/
def Stoppable (s : State) : Prop := s.pump.state = .starting ∨ s.pump.state = .running ∨ s.pump.state = .startPending

/-- What the judgements of a pair leave of the station, the conditions of `l` being judged once each. -/
structure Judges (x : Ctx) (l : List Alarm) (s t : State) : Prop where
  own     : .pumpTrip ∉ l ∧ .pumpFail ∉ l
  told    : Told x false s t
  conds   : CondsOnly (l ++ [.pumpTrip, .pumpFail]) s t
  fouling : t.fouling = { s.fouling with
    index := t.fouling.index, stale := t.fouling.stale, runningMark := t.fouling.runningMark, settleTimer := t.fouling.settleTimer }
  ring    : RingKept s t
  loader  : t.loader = { s.loader with write := t.loader.write, writePending := t.loader.writePending, spi := t.loader.spi }
  screen  : t.screen = s.screen
  clock   : t.clock = s.clock
  ladder  : t.ladder = s.ladder
  alarms  : ∀ a ∉ l ++ [.pumpTrip, .pumpFail], alarmState t a = alarmState s a
  pump    : t.pump.state = s.pump.state ∨ (Stoppable s ∧ ¬Stoppable t)
  silent  : (∀ a ∈ l, alarmState t a = alarmState s a) → t.pump.state = s.pump.state → t.link = s.link

section
variable {x : Ctx} {s t u : State} {l m : List Alarm}

theorem Judges.trans (h : Judges x l s t) (k : Judges x m t u) (hd : l.Disjoint m) : Judges x (l ++ m) s u where
  own := by simp [h.own, k.own]
  told := h.told.trans k.told
  conds := (h.conds.mono (by simp)).trans (k.conds.mono (by simp))
  fouling := by rw [k.fouling, h.fouling]
  ring := h.ring.trans k.ring
  loader := by rw [k.loader, h.loader]
  screen := k.screen.trans h.screen
  clock := k.clock.trans h.clock
  ladder := k.ladder.trans h.ladder
  alarms a ha := by
    simp only [List.mem_append, not_or] at ha
    exact (k.alarms a (by simp [ha])).trans (h.alarms a (by simp [ha]))
  pump := by
    rcases h.pump with h1 | ⟨h1, h2⟩ <;> rcases k.pump with k1 | ⟨k1, k2⟩
    · exact .inl (k1.trans h1)
    · exact .inr ⟨by simpa [Stoppable, h1] using k1, k2⟩
    · exact .inr ⟨h1, by simpa [Stoppable, k1] using h2⟩
    · exact absurd k1 h2
  silent ha hp := by
    have hl (a : Alarm) (hm : a ∈ l) : alarmState t a = alarmState s a := by
      have h1 : a ≠ .pumpTrip := fun e => h.own.1 (e ▸ hm)
      have h2 : a ≠ .pumpFail := fun e => h.own.2 (e ▸ hm)
      rw [← ha a (List.mem_append_left _ hm), k.alarms a (by simpa [h1, h2] using fun hk => hd hm hk)]
    have hm (a : Alarm) (hm : a ∈ m) : alarmState u a = alarmState t a := by
      have h1 : a ≠ .pumpTrip := fun e => k.own.1 (e ▸ hm)
      have h2 : a ≠ .pumpFail := fun e => k.own.2 (e ▸ hm)
      rw [ha a (List.mem_append_right _ hm), h.alarms a (by simpa [h1, h2] using fun hk => hd hk hm)]
    have hpt : t.pump.state = s.pump.state := by
      rcases h.pump with h1 | ⟨h1, h2⟩
      · exact h1
      · rcases k.pump with k1 | ⟨k1, -⟩
        · exact k1.symm.trans hp
        · exact absurd k1 h2
    exact (k.silent hm (hp.trans hpt.symm)).trans (h.silent hl hpt)

/-- Nothing that the judgements move has moved, but for the fouling index. -/
theorem Judges.of_eq (hf : t.fouling = { s.fouling with index := t.fouling.index, stale := t.fouling.stale })
    (h : t = { s with choices := t.choices, front := t.front, fouling := t.fouling }) : Judges x [] s t := by
  have hc : t.conds = s.conds := by rw [h]
  have ha : t.alarms = s.alarms := by rw [h]
  have hl : t.link = s.link := by rw [h]
  have hp : t.pump = s.pump := by rw [h]
  exact ⟨by simp, .of_eq hc ha hl, .of_eq hc, by rw [hf], by rw [h]; exact ⟨rfl, rfl, rfl⟩, by rw [h], by rw [h], by rw [h], by rw [h],
    fun a _ => alarmState_congr ha a, .inl (by rw [hp]), fun _ _ => hl⟩

/-- A judgement that moves no entry hands nothing over (R146). -/
theorem setCond_silent {a : Alarm} {v : Bool} (h : alarmState (setCond x a v s) a = alarmState s a) :
    (setCond x a v s).link = s.link := by
  rw [alarmState_setCond] at h
  unfold setCond annunciate
  dsimp only
  split_ifs with h1 h2
  · rfl
  · obtain ⟨he, hn⟩ : alarmEnabled x.cfg a.index.val = true ∧ entryAfterChange v (alarmState s a) ≠ alarmState s a := by
      rw [Bool.and_eq_true, decide_eq_true_iff] at h2
      exact h2
    rw [if_pos ⟨rfl, he, h1⟩] at h
    exact absurd h hn
  · rfl

/-- A condition judged (R146). -/
theorem Judges.cond {a : Alarm} (v : Bool) (hown : .pumpTrip ∉ [a] ∧ .pumpFail ∉ [a] := by decide)
    (hb : a ≠ .bayConflict := by decide) : Judges x [a] s (setCond x a v s) where
  own := hown
  told := .cond a v s hb
  conds := .cond a v s (by simp)
  fouling := by simp
  ring := ⟨by simp, by simp, by simp⟩
  loader := by simp
  screen := by simp
  clock := by simp
  ladder := by simp
  alarms b hm := alarmState_setCond_kept (.inl fun e => hm (by simp [e]))
  pump := .inl (by simp)
  silent ha _ := setCond_silent (ha a (by simp))

theorem Judges.of_pump (hp : PumpOnly s t) (htold : Told x false s t) (hr : RingKept s t)
    (ha : ∀ a, a ≠ .pumpTrip → a ≠ .pumpFail → alarmState t a = alarmState s a) (hm : t = s ∨ (Stoppable s ∧ ¬Stoppable t))
    (hs : t.screen = s.screen := by simp) (hc : t.clock = s.clock := by simp) (hl : t.ladder = s.ladder := by simp) :
    Judges x [] s t where
  own := by simp
  told := htold
  conds := .of_pumpOnly hp
  fouling := by rw [hp.fouling]
  ring := hr
  loader := hp.loader
  screen := hs
  clock := hc
  ladder := hl
  alarms a h := ha a (fun e => h (by simp [e])) fun e => h (by simp [e])
  pump := hm.imp (fun h => by rw [h]) id
  silent _ hst := by
    rcases hm with h | ⟨h1, h2⟩
    · rw [h]
    · exact absurd (by simpa [Stoppable, hst] using h1) h2

theorem withdrawStart_judges {c : Cause} (hp : s.pump.state = .startPending) : Judges x [] s (withdrawStart x c s) := by
  refine .of_pump (withdrawStart_pumpOnly x c s) (withdrawStart_told x s c) (withdrawStart_ringKept x c s)
    (fun a h1 h2 => alarmState_setPump h1 h2) (.inr ⟨.inr (.inr hp), ?_⟩)
  simp [Stoppable, (withdrawStart_pump hp).1]

theorem enterStopping_judges (hp : s.pump.state = .starting ∨ s.pump.state = .running) : Judges x [] s (enterStopping x s) := by
  refine .of_pump (enterStopping_pumpOnly x s) (enterStopping_told x s) (enterStopping_ringKept x s)
    (fun a h1 h2 => alarmState_setPump h1 h2) (.inr ⟨hp.imp id .inl, ?_⟩)
  simp [Stoppable, (enterStopping_state x s).1]

theorem Judges.refl (s : State) : Judges x [] s s := .of_eq rfl rfl

theorem checkPending_judges : Judges x [] s (checkPending x s) := by
  by_cases hp : s.pump.state = .startPending
  · cases hc : failingPart x.cfg s with
    | none => rw [checkPending_idle (.inr hc)]; exact .refl s
    | some c => rw [checkPending_withdraws hp hc]; exact withdrawStart_judges hp
  · rw [checkPending_idle (.inl hp)]; exact .refl s

theorem protectiveStop_judges {c : Cause} : Judges x [] s (protectiveStop x c s) := by
  unfold protectiveStop
  split
  next h => exact enterStopping_judges (.inl h)
  next h => exact enterStopping_judges (.inr h)
  next h => exact withdrawStart_judges h
  all_goals exact .refl s

theorem suctionChanged_judges (v : Bool) : Judges x [.suctionLow] s (suctionChanged x v s) := by
  unfold suctionChanged
  dsimp only
  split
  · exact (Judges.cond v).trans protectiveStop_judges (by simp)
  · exact .cond v

theorem blockedChanged_judges (v : Bool) : Judges x [.screenBlocked] s (blockedChanged x v s) := by
  unfold blockedChanged
  dsimp only
  split
  · exact (Judges.cond v).trans protectiveStop_judges (by simp)
  · exact .cond v

/-! ### The trigger check of a pair -/

/-- What a pair does: judgements of the conditions of `A`, with one trigger check among them by the fouling index it leaves (R92). -/
def Checked (x : Ctx) (A : List Alarm) (s t : State) : Prop := ∃ (u : State) (l m : List Alarm), Judges x l s u ∧
  Judges x m (triggerCheck x .foulingUpdate u) t ∧ t.fouling.index = u.fouling.index ∧ t.fouling.stale = u.fouling.stale ∧
  l.Disjoint m ∧ l ++ m ⊆ A

theorem Checked.after {A : List Alarm} (h : Checked x A t u) (hj : Judges x l s t) (hd : l.Disjoint A) : Checked x (l ++ A) s u := by
  obtain ⟨v, l', m, h1, h2, h3, h4, h5, h6⟩ := h
  obtain ⟨hl', hm⟩ := List.append_subset.1 h6
  refine ⟨v, l ++ l', m, hj.trans h1 (List.disjoint_of_subset_right hl' hd), h2, h3, h4, ?_, ?_⟩
  · exact List.disjoint_append_left.2 ⟨List.disjoint_of_subset_right hm hd, h5⟩
  · rw [List.append_assoc]
    exact List.append_subset.2 ⟨List.subset_append_left l A, List.Subset.trans h6 (List.subset_append_right l A)⟩

theorem Checked.before {A : List Alarm} (h : Checked x A s t) (hj : Judges x m t u) (hd : A.Disjoint m)
    (hf : u.fouling.index = t.fouling.index ∧ u.fouling.stale = t.fouling.stale) : Checked x (A ++ m) s u := by
  obtain ⟨v, l, m', h1, h2, h3, h4, h5, h6⟩ := h
  obtain ⟨hl, hm'⟩ := List.append_subset.1 h6
  refine ⟨v, l, m' ++ m, h1, h2.trans hj (List.disjoint_of_subset_left hm' hd), hf.1.trans h3, hf.2.trans h4, ?_, ?_⟩
  · exact List.disjoint_append_right.2 ⟨h5, List.disjoint_of_subset_left hl hd⟩
  · rw [← List.append_assoc]
    exact List.append_subset.2 ⟨List.Subset.trans h6 (List.subset_append_left A m), List.subset_append_right A m⟩

theorem Checked.mono {A B : List Alarm} (h : Checked x A s t) (hs : A ⊆ B) : Checked x B s t := by
  obtain ⟨v, l, m, h1, h2, h3, h4, h5, h6⟩ := h
  exact ⟨v, l, m, h1, h2, h3, h4, h5, List.Subset.trans h6 hs⟩

theorem triggerCheck_checked : Checked x [] s (triggerCheck x .foulingUpdate s) :=
  ⟨s, [], [], .refl s, .refl _, by simp, by simp, by simp, by simp⟩

theorem foulingUpdate_checked : Checked x [.screenBlocked] s (foulingUpdate x s) := by
  have htaken : Judges x [] s (indexTaken x s) := .of_eq rfl rfl
  have hchosen (u : State) : Judges x [] u { u with choices := u.choices + 1 } := .of_eq rfl rfl
  by_cases h : blockedByPair x.cfg s = s.conds.screenBlocked
  · rw [foulingUpdate_still h]
    exact ((triggerCheck_checked (s := indexTaken x s)).after htaken (by simp)).mono (by simp)
  · rw [foulingUpdate_moved h]
    rcases eitherOrder_cases (triggerCheck x .foulingUpdate) (blockedChanged x (blockedByPair x.cfg s)) (indexTaken x s) with he | he <;>
      rw [he]
    · exact ((triggerCheck_checked.after (hchosen _) (by simp)).after htaken (by simp)).before (blockedChanged_judges _) (by simp)
        (blockedChanged_fouling _)
    · exact ((triggerCheck_checked.after (blockedChanged_judges _) (by simp)).after (hchosen _) (by simp)).after htaken (by simp)

theorem suctionChanged_fouling (v : Bool) : (suctionChanged x v s).fouling.index = s.fouling.index ∧
    (suctionChanged x v s).fouling.stale = s.fouling.stale := by
  unfold suctionChanged
  dsimp only
  split
  · rw [(protectiveStop_pumpOnly x _ _).fouling]
    simp
  · simp

theorem deliverPair_checked : Checked x [.suctionLow, .screenBlocked] s (deliverPair x s) := by
  have hchosen (u : State) : Judges x [] u { u with choices := u.choices + 1 } := .of_eq rfl rfl
  by_cases h : suctionAfterPair x.cfg s.conds.suctionLow s.front.inner = s.conds.suctionLow
  · rw [deliverPair_still h]
    exact foulingUpdate_checked.mono (by simp)
  · rw [deliverPair_moved h]
    rcases eitherOrder_cases (foulingUpdate x) (suctionChanged x (suctionAfterPair x.cfg s.conds.suctionLow s.front.inner)) s with he | he <;>
      rw [he]
    · exact ((foulingUpdate_checked.after (hchosen _) (by simp)).before (suctionChanged_judges _) (by simp)
        (suctionChanged_fouling _)).mono (by simp)
    · exact (foulingUpdate_checked.after (suctionChanged_judges _) (by simp)).after (hchosen _) (by simp)

theorem sampleTimer_checked {d : Clock} {outer inner : Nat} :
    Checked x [.innerSensor, .outerSensor, .suctionLow, .screenBlocked] s (deliverPair x (pairTaken x d outer inner s)) := by
  have hfront : Judges x [] s (sampledLoops x outer inner { s with front := { s.front with sampleTimer := rearmed d 100 } }) :=
    .of_eq rfl rfl
  have hs : Judges x [.innerSensor, .outerSensor] s
      (sampled x outer inner { s with front := { s.front with sampleTimer := rearmed d 100 } }) :=
    (hfront.trans (.cond _) (by simp)).trans (.cond _) (by simp)
  exact deliverPair_checked.after (hs.trans checkPending_judges (by simp)) (by simp)

theorem Checked.condsOnly {A : List Alarm} (h : Checked x A s t) : CondsOnly (A ++ [.pumpTrip, .pumpFail]) s t := by
  obtain ⟨u, l, m, h1, h2, -, -, -, hsub⟩ := h
  obtain ⟨hl, hm⟩ := List.append_subset.1 hsub
  have hcheck : CondsOnly (A ++ [.pumpTrip, .pumpFail]) u (triggerCheck x .foulingUpdate u) := .of_eq
  exact (h1.conds.mono (append_subset_append hl _)).trans
    (hcheck.trans (h2.conds.mono (append_subset_append hm _)))

theorem Checked.ring {A : List Alarm} (h : Checked x A s t) : RingKept s t := by
  obtain ⟨u, l, m, h1, h2, -⟩ := h
  have hcheck : RingKept u (triggerCheck x .foulingUpdate u) := ⟨by simp, by simp, by simp⟩
  exact (h1.ring.trans hcheck).trans h2.ring

theorem Checked.blocks {A : List Alarm} (h : Checked x A s t) : t.fouling = { s.fouling with
      index := t.fouling.index, stale := t.fouling.stale, runningMark := t.fouling.runningMark, settleTimer := t.fouling.settleTimer } ∧
    t.loader = { s.loader with write := t.loader.write, writePending := t.loader.writePending, spi := t.loader.spi } := by
  obtain ⟨u, l, m, h1, h2, -⟩ := h
  have hf := h2.fouling
  have hl := h2.loader
  simp only [triggerCheck_frame] at hf hl
  exact ⟨by rw [hf, h1.fouling], by rw [hl, h1.loader]⟩

theorem conds_of_pairConds (h : CondsOnly pairConds s t) : t.conds = { s.conds with
    innerSensor := t.conds.innerSensor, outerSensor := t.conds.outerSensor, suctionLow := t.conds.suctionLow,
    screenBlocked := t.conds.screenBlocked, pumpTrip := t.conds.pumpTrip, pumpFail := t.conds.pumpFail } := by
  refine Conds.ext_get fun a => ?_
  cases a
  case innerSensor | outerSensor | suctionLow | screenBlocked | pumpTrip | pumpFail => rfl
  all_goals exact h _ (by decide)

/-- The two sensor conditions once the pair is taken (R15, R42). -/
theorem pairTaken_sensors {d : Clock} {outer inner : Nat} : (pairTaken x d outer inner s).conds.innerSensor =
      decide ((pairTaken x d outer inner s).front.inner.state ≠ .good) ∧
    (pairTaken x d outer inner s).conds.outerSensor =
      (decide ((pairTaken x d outer inner s).front.outer.state ≠ .good) || s.tide.suspect) := by
  have hp := checkPending_pumpOnly x (sampled x outer inner { s with front := { s.front with sampleTimer := rearmed d 100 } })
  constructor <;> rw [pairTaken, hp.conds]
  · simp only [sampled, setCond_conds, Conds.set, checkPending_frame, setCond_frame]
  · simp [sampled, setCond_conds, Conds.set]

/-- The screen controller of a claim made (R94). -/
theorem makeClaim_screen {k : ClaimClass} (hw : s.screen.wash = .idle) : (makeClaim x k s).screen = { s.screen with
    wash := .claiming, tag := (s.screen.tag + 1) % 16, cls := k, completed := 0, drive := driveChoice (makeClaim x k s),
    stallTimer := (makeClaim x k s).screen.stallTimer, prescale := (makeClaim x k s).screen.prescale,
    lastCapture := (makeClaim x k s).screen.lastCapture, period := (makeClaim x k s).screen.period } := by
  obtain ⟨v, hv⟩ : ∃ v, v = offer x (.claim ((s.screen.tag + 1) % 16) k (claimDuration (washSetInForce x.cfg s)))
    { s with screen := { s.screen with tag := (s.screen.tag + 1) % 16, cls := k, completed := 0 } } := ⟨_, rfl⟩
  have hscreen : v.screen = { s.screen with tag := (s.screen.tag + 1) % 16, cls := k, completed := 0 } := by rw [hv]; simp
  have hmade : makeClaim x k s = setWash x .claiming v := by rw [hv]; rfl
  have hset : (setWash x .claiming v).screen = (selectDrive x { v with screen := { v.screen with wash := .claiming } }).screen := by
    rw [setWash_ne (by simp [hscreen, hw])]
    simp
  have hdrive := (makeClaim_made (x := x) (k := k) hw).2.2.2.2.2.1
  rw [← hdrive, hmade, hset, selectDrive_screen, hscreen]

end

/-- Settles O12. -/
theorem sampleTakesThePair : Obligations.SampleTakesThePair := by
  unfold Obligations.SampleTakesThePair
  intro s x d outer inner hx ht hd
  obtain ⟨w, hw⟩ : ∃ w, w = pairTaken x d outer.toNat inner.toNat s := ⟨_, rfl⟩
  obtain ⟨t, hstep⟩ : ∃ t, t = deliverPair x w := ⟨_, rfl⟩
  have hexec : exec (.sampleTimerExpiry outer inner) s = .next t := by rw [hstep, hw]; exact sampleTimer_step hx ht hd
  have hchecked : Checked x [.innerSensor, .outerSensor, .suctionLow, .screenBlocked] s t := by rw [hstep, hw]; exact sampleTimer_checked
  have hkept := deliverPair_checked (x := x) (s := w)
  rw [← hstep] at hkept
  obtain ⟨htinner, htouter⟩ : t.conds.innerSensor = w.conds.innerSensor ∧ t.conds.outerSensor = w.conds.outerSensor :=
    ⟨hkept.condsOnly .innerSensor (by decide), hkept.condsOnly .outerSensor (by decide)⟩
  obtain ⟨hinner, houter⟩ := pairTaken_sensors (x := x) (d := d) (outer := outer.toNat) (inner := inner.toNat) (s := s)
  have hwlow := (pairTaken_kept (x := x) (d := d) (outer := outer.toNat) (inner := inner.toNat) (s := s)).2.2.2.1
  rw [← hw] at hinner houter hwlow
  have htfront : t.front = w.front := by rw [hstep]; simp
  have hconds := hchecked.condsOnly
  have hfront : t.front = {
      sampleTimer := some (d + ms 100),
      outer := sampleLoop x.cfg.filterShift x.cfg.outer outer.toNat s.front.outer,
      inner := sampleLoop x.cfg.filterShift x.cfg.inner inner.toNat s.front.inner } := by
    rw [hstep, hw]
    simp [pairTaken, sampled, rearmed]
  obtain ⟨hfouling, hloader⟩ := hchecked.blocks
  obtain ⟨hring, hpointer, hage⟩ := hchecked.ring
  obtain ⟨u, l, m, hbefore, hafter, hindex, hstale, hdis, hsub⟩ := hchecked
  refine ⟨t, hexec, hfront, ?_, ?_, ?_, conds_of_pairConds (hconds.mono (by decide)), hfouling, ?_, hring, hpointer, hage, ?_, hloader⟩
  · rw [htinner, hinner, htfront]
  · rw [htouter, houter, htfront]
  · rw [htfront, ← hwlow]
    exact hstep ▸ deliverPair_suction
  · intro blocked urgent routine held claims
    obtain ⟨hl, hm⟩ := List.append_subset.1 hsub
    have hu (a : Alarm) (ha : a ∉ [Alarm.innerSensor, .outerSensor, .suctionLow, .screenBlocked] ++ [.pumpTrip, .pumpFail]) :
        u.conds.get a = s.conds.get a := hbefore.conds a fun h => ha (append_subset_append hl _ h)
    have hstall : u.conds.screenStall = s.conds.screenStall := hu .screenStall (by decide)
    have hconflict : u.conds.bayConflict = s.conds.bayConflict := hu .bayConflict (by decide)
    have hsurge : u.conds.surge = s.conds.surge := hu .surge (by decide)
    have halarm : alarmState u .screenStall = alarmState s .screenStall := hbefore.alarms _ fun h => absurd (append_subset_append hl _ h) (by decide)
    have hphase : u.loader.phase = s.loader.phase := by rw [hbefore.loader]
    have hscreen := hbefore.screen
    have hblocked : claimsBlocked u = true ↔ blocked := by rw [claimsBlocked_iff, hstall, halarm, hscreen, hconflict]
    have hurgent : urgentTrigger x.cfg .foulingUpdate u = true ↔ urgent := by
      rw [urgentTrigger_iff, ← hindex, ← hstale]
      simp [urgent]
    have hroutine : routineTrigger x.cfg .foulingUpdate u = true ↔ routine := by
      rw [routineTrigger_iff, ← hindex, ← hstale, washThresholdInForce, hsurge, hscreen]
      simp [routine]
    have hheld : routineBlocked u = true ↔ held := by simp [routineBlocked, held, hbefore.ladder, hscreen]
    obtain ⟨cblocked, curgent, croutine, cnone⟩ := chosenClass_cases x.cfg .foulingUpdate u
    have made (k : ClaimClass) (hw : s.screen.wash = .idle) (hp : s.loader.phase = .operating)
        (hk : chosenClass x.cfg .foulingUpdate u = some k) : claims k := by
      have hwu : u.screen.wash = .idle := by rw [hscreen, hw]
      rw [triggerCheck_some hwu (by rw [hphase, hp]) hk] at hafter
      have hdrive : driveChoice t = driveChoice (makeClaim x k u) := by
        have hmade (a : Alarm) (ha : a ∉ [Alarm.innerSensor, .outerSensor, .suctionLow, .screenBlocked] ++ [.pumpTrip, .pumpFail]) :
            t.conds.get a = (makeClaim x k u).conds.get a := hafter.conds a fun h => ha (append_subset_append hm _ h)
        exact driveChoice_congr (by rw [hafter.loader]) (hmade .bayConflict (by decide)) (hmade .screenStall (by decide))
          (by rw [hafter.screen]) (by rw [hafter.fouling]) (hmade .highHigh (by decide)) (hmade .surge (by decide))
      have htscreen := hafter.screen
      refine ⟨?_, ?_, fun hm => ?_⟩
      · rw [htscreen, makeClaim_screen hwu, hscreen, hdrive]
      · exact driveMoves_congr (makeClaim_made hwu).2.2.2.2.2.2 hbefore.clock.symm (by rw [hscreen]) (by rw [htscreen])
      · obtain ⟨h1, h2⟩ := makeClaim_held (x := x) (k := k) hwu (hbefore.told.not_mute hm)
        rw [hscreen, washSetInForce, hsurge] at h1
        exact ⟨(hafter.told.held h1).handedOver, (hafter.told.held h2).handedOver⟩
    refine ⟨fun h => ?_, fun h1 h2 h3 h4 => made .urgent h1 h2 (curgent ?_ (hurgent.2 h4)),
      fun h1 h2 h3 h4 h5 h6 => made .routine h1 h2 (croutine ?_ ?_ (hroutine.2 h5) ?_)⟩
    · have hnone : triggerCheck x .foulingUpdate u = u := by
        refine triggerCheck_none ?_
        rw [hscreen, hphase]
        refine h.imp id fun h => h.imp id fun h => ?_
        rcases h with h | ⟨h1, h2⟩
        · exact cblocked (hblocked.2 h)
        · exact cnone (Bool.eq_false_iff.2 (mt hurgent.1 h1)) (h2.imp (fun h => Bool.eq_false_iff.2 (mt hroutine.1 h)) hheld.2)
      rw [hnone] at hafter
      have hall := hbefore.trans hafter hdis
      exact ⟨hall.screen, fun ha hp => hall.silent (fun a _ => alarmState_congr ha a) hp⟩
    · exact Bool.eq_false_iff.2 (mt hblocked.1 h3)
    · exact Bool.eq_false_iff.2 (mt hblocked.1 h3)
    · exact Bool.eq_false_iff.2 (mt hurgent.1 h4)
    · exact Bool.eq_false_iff.2 (mt hheld.1 h6)
  · rw [hstep, hw]
    apply State.eq_of_parts <;> simp [pairTaken, sampled]

end Sys2Proof.Machine
end
